-- ==== Sys2Proof/Word.lean ====
section
/-!
DEFINITION. The words of fixed width (spec/00_scope.md R13, spec/30_encoding.md R80, R82, R83, R84, R88).

Words whose width the configuration decides (GW-bit rows, the counters) are natural numbers below 2^width; see
notes/assumptions/8.md.
-/

namespace Sys2Proof

/-- The control word of one tick, format CTL4 (R80): bit 3 `vertical_sync`, bit 2 `vertical_enable`, bit 1
`horizontal_sync`, bit 0 `horizontal_enable`. -/
abbrev Ctl := BitVec 4

/-- The serializer's selector, format SER2 (R82): bit 1 `horizontal_enable`, bit 0 `col_last`. -/
abbrev SerSel := BitVec 2

/-- The oscillator's selector, format BLK1 (R83): bit 0 `blink_last`. -/
abbrev BlkSel := BitVec 1

/-- A character code, format CODE8 (R88). -/
abbrev Code8 := BitVec 8

/-- An attribute word, format ATTR5 (R84): bit 0 red, bit 1 green, bit 2 blue, bit 3 underline, bit 4 blink. -/
abbrev Attr5 := BitVec 5

end Sys2Proof
end

