-- ==== Sys2Proof/Config.lean ====
section
/-!
DEFINITION. The configuration of an engine (spec/00_scope.md R6, R12, spec/95_test_vectors.md TINY) and the free values the
spec leaves open (spec/20_memory.md R59, spec/00_scope.md R11). The derived parameters (R7) are in Machine/Params.lean, the
checks (R8) in Machine/Construct.lean.
-/

namespace Sys2Proof

/-- The contents of one read-only table as supplied before tick 0 (R6): `depth` words of `width` bits each. `cells` lists the
words that are not 0 with their addresses, strictly rising; an address below `depth` that is not listed holds 0
(notes/assumptions/20.md). -/
structure Table where
  depth : Nat
  width : Nat
  cells : List (Nat × Nat)
deriving DecidableEq, Repr

/-- The primary parameters (R6), in the document's names: AW, AH, GW, GH, P and the three tables. -/
structure Config where
  activeWidth : Nat
  activeHeight : Nat
  glyphWidth : Nat
  glyphHeight : Nat
  blinkHalfPeriod : Nat
  charBuf : Table
  attrBuf : Table
  glyph : Table
deriving DecidableEq, Repr

/-- The checks CFG1 to CFG8 of R8, by their identifiers. -/
inductive ConfigCheck where
  | cfg1 | cfg2 | cfg3 | cfg4 | cfg5 | cfg6 | cfg7 | cfg8
deriving DecidableEq, Repr

/-- The document's reference dimensions (R12): 640 x 480 pixels, 8 x 16 glyphs. The spec gives no P and no contents for it. -/
def Config.reference (p : Nat) (chars attrs glyphs : Table) : Config :=
  { activeWidth := 640, activeHeight := 480, glyphWidth := 8, glyphHeight := 16, blinkHalfPeriod := p,
    charBuf := chars, attrBuf := attrs, glyph := glyphs }

/-- The spec's configuration TINY (spec/95_test_vectors.md section 3): AW = 8, AH = 4, GW = 4, GH = 2, P = 3. -/
def Config.tiny : Config :=
  { activeWidth := 8, activeHeight := 4, glyphWidth := 4, glyphHeight := 2, blinkHalfPeriod := 3,
    charBuf := { depth := 4, width := 8, cells := [(0, 0x01), (1, 0x02), (2, 0x03), (3, 0x04)] },
    attrBuf := { depth := 4, width := 5, cells := [(0, 0b00111), (1, 0b01001), (2, 0b10010), (3, 0b00100)] },
    glyph := { depth := 512, width := 4,
               cells := [(2, 0b1010), (3, 0b0110), (4, 0b1100), (5, 0b0001), (6, 0b1111), (7, 0b1001),
                         (8, 0b0101), (9, 0b0011)] } }

/-- The draw of R59 for a read of `CHAR` beyond the table in the tick of the given number: any word of 8 bits
(notes/assumptions/5.md). -/
opaque Config.drawChar : Nat → Code8

/-- The draw of R59 for a read of `ATTR` beyond the table: any word of 5 bits (notes/assumptions/5.md). -/
opaque Config.drawAttr : Nat → Attr5

/-- The draw of R59 for a read of `GLYPH` beyond the table: any word of the given width (notes/assumptions/5.md). -/
opaque Config.drawGlyph : (w : Nat) → Nat → BitVec w

/-- The control word the timing generator presents in a tick for which no word is queued in `State.inputs`: any word (R11,
R15; notes/assumptions/4.md). -/
opaque Config.freeCtl : Nat → Ctl

end Sys2Proof
end

