-- ==== Sys2Proof/Machine/Params.lean ====
section
/-!
DEFINITION. The derived parameters of a configuration (spec/00_scope.md R7).
-/

namespace Sys2Proof

/-- ceil(log2 n) for n >= 1 (R7). -/
def ceilLog2 (n : Nat) : Nat :=
  if n ≤ 1 then 0 else (n - 1).log2 + 1

/-- CPR: cells per character row (R7). -/
def Config.cellsPerRow (c : Config) : Nat := c.activeWidth / c.glyphWidth

/-- ROWS: character rows per frame (R7). -/
def Config.rows (c : Config) : Nat := c.activeHeight / c.glyphHeight

/-- N: total cells, the depth of the Character Buffer and of the Attribute Buffer (R7). -/
def Config.totalCells (c : Config) : Nat := c.cellsPerRow * c.rows

/-- GDEPTH: the depth of the Glyph Store (R7). -/
def Config.glyphDepth (c : Config) : Nat := 256 * c.glyphHeight

/-- W_CELL: the number of bits of N written in binary, the width of `cell_index` and `row_start` (R7, D6). -/
def Config.wCell (c : Config) : Nat := c.totalCells.log2 + 1

/-- W_COL: the width of `column_in_glyph` (R7, D6). -/
def Config.wCol (c : Config) : Nat := max 1 (ceilLog2 c.glyphWidth)

/-- W_ROW: the width of `row_in_glyph` (R7, D6). -/
def Config.wRow (c : Config) : Nat := max 1 (ceilLog2 c.glyphHeight)

/-- W_BLINK: the width of the blink counter (R7, D6). -/
def Config.wBlink (c : Config) : Nat := max 1 (ceilLog2 c.blinkHalfPeriod)

/-- W_GADDR: the width of a Glyph Store address (R7). -/
def Config.wGaddr (c : Config) : Nat := 8 + ceilLog2 c.glyphHeight

end Sys2Proof
end

