-- ==== Sys2Proof/Machine/Construct.lean ====
section
/-!
DEFINITION. What makes a configuration one of the hardware: the canonical form of a table, the checks CFG1 to CFG8
(spec/00_scope.md R8), and the table made from the flat sequence of words a caller supplies (R6, spec/20_memory.md R60).
-/

namespace Sys2Proof

/-- The addresses of a table's listed words rise strictly, starting at `lo` or above. -/
def risingFrom : Nat → List (Nat × Nat) → Bool
  | _, [] => true
  | lo, (a, _) :: rest => decide (lo ≤ a) && risingFrom (a + 1) rest

/-- The canonical form of a table: addresses strictly rising and below `depth`, every listed word other than 0 and below
2^width (notes/assumptions/20.md). -/
def Table.wf (t : Table) : Bool :=
  risingFrom 0 t.cells && t.cells.all fun e => decide (e.1 < t.depth) && decide (e.2 ≠ 0) && decide (e.2 < 2 ^ t.width)

/-- The table holds exactly `depth` words, each exactly `width` bits (CFG3, CFG4, CFG5). -/
def Table.holdsWords (t : Table) (depth width : Nat) : Bool :=
  decide (t.depth = depth) && decide (t.width = width) && t.wf

/-- The nonzero words of a flat sequence whose first word stands at the given address. -/
def listedFrom : Nat → List Nat → List (Nat × Nat)
  | _, [] => []
  | k, w :: ws => if w = 0 then listedFrom (k + 1) ws else (k, w) :: listedFrom (k + 1) ws

/-- The table of the words a caller supplies, the first at address 0 (R6). -/
def Table.ofWords (width : Nat) (ws : List Nat) : Table :=
  { depth := ws.length, width := width, cells := listedFrom 0 ws }

/-- One check of R8. -/
def ConfigCheck.passes (c : Config) : ConfigCheck → Bool
  | .cfg1 => decide (c.activeWidth % c.glyphWidth = 0)
  | .cfg2 => decide (c.activeHeight % c.glyphHeight = 0)
  | .cfg3 => c.glyph.holdsWords c.glyphDepth c.glyphWidth
  | .cfg4 => c.charBuf.holdsWords c.totalCells 8
  | .cfg5 => c.attrBuf.holdsWords c.totalCells 5
  | .cfg6 => decide (4 ≤ c.glyphWidth)
  | .cfg7 => decide (1 ≤ c.glyphHeight) && decide (c.glyphWidth ≤ c.activeWidth) && decide (c.glyphHeight ≤ c.activeHeight)
  | .cfg8 => decide (1 ≤ c.blinkHalfPeriod)

/-- The checks of R8. -/
def allChecks : List ConfigCheck := [.cfg1, .cfg2, .cfg3, .cfg4, .cfg5, .cfg6, .cfg7, .cfg8]

/-- Every check the configuration fails; the spec fixes no order of reporting (spec/60_exceptions.md R171,
notes/assumptions/10.md). -/
def failedChecks (c : Config) : List ConfigCheck := allChecks.filter fun k => !k.passes c

/-- The configuration passes CFG1 to CFG8: an engine exists for it (R8). -/
def Config.valid (c : Config) : Bool := allChecks.all fun k => k.passes c

end Sys2Proof
end

