-- ==== Sys2Proof/Syntax.lean ====
section
/-!
DEFINITION. The operations of the engine, one constructor per row of spec/opcode_table.json (spec/30_encoding.md R81 to R86,
R94), and the selector formats that select them.
-/

namespace Sys2Proof

/-- The selector formats (R94). `uncond` is the table's NONE: performed in every tick, no selector bit (R86). -/
inductive Format where
  /-- CTL4: the four inputs (R80, R81). -/
  | ctl4
  /-- SER2: `horizontal_enable` and `col_last` (R82). -/
  | ser2
  /-- BLK1: `blink_last` (R83). -/
  | blk1
  /-- NONE: performed in every tick (R86). -/
  | uncond
deriving DecidableEq, Repr

/-- One operation. A constructor's arguments are the selector bits its row does not test, in the row's order (R94); no operation
depends on them. -/
inductive Instr where
  /-- FRAME_RESET, CTL4 `1esn` (R100): `vertical_enable`, `horizontal_sync`, `horizontal_enable` untested. -/
  | frameReset (e h n : Bool)
  /-- LINE_ADVANCE, CTL4 `011n` (R101): `horizontal_enable` untested. -/
  | lineAdvance (n : Bool)
  /-- PIXEL_ADVANCE, CTL4 `0101` (R102). -/
  | pixelAdvance
  /-- HOLD.V, CTL4 `00sn` (R103): `horizontal_sync`, `horizontal_enable` untested. -/
  | holdV (h n : Bool)
  /-- HOLD.H, CTL4 `0100` (R103). -/
  | holdH
  /-- LATCH.B, SER2 `0c` (R130): `col_last` untested. -/
  | latchB (c : Bool)
  /-- LATCH.C, SER2 `11` (R130). -/
  | latchC
  /-- SHIFT, SER2 `10` (R131). -/
  | shift
  /-- BLINK_COUNT, BLK1 `0` (R140). -/
  | blinkCount
  /-- BLINK_TOGGLE, BLK1 `1` (R141). -/
  | blinkToggle
  /-- FETCH_CELL, NONE (R120). -/
  | fetchCell
  /-- FETCH_GLYPH, NONE (R121). -/
  | fetchGlyph
  /-- COMPOSE, NONE (R151). -/
  | compose
deriving DecidableEq, Repr

/-- The selector format of an operation (R94). -/
def Instr.format : Instr → Format
  | .frameReset _ _ _ => .ctl4
  | .lineAdvance _ => .ctl4
  | .pixelAdvance => .ctl4
  | .holdV _ _ => .ctl4
  | .holdH => .ctl4
  | .latchB _ => .ser2
  | .latchC => .ser2
  | .shift => .ser2
  | .blinkCount => .blk1
  | .blinkToggle => .blk1
  | .fetchCell => .uncond
  | .fetchGlyph => .uncond
  | .compose => .uncond

end Sys2Proof
end

