-- ==== Sys2Proof/WellFormed.lean ====
section
/-!
DEFINITION. Which terms are well formed: operations and selector words (spec/30_encoding.md R90: none is illegal or reserved),
tables and configurations (spec/00_scope.md R8). The checks themselves stand in Machine/Construct.lean.
-/

namespace Sys2Proof

/-- The number of selector bits of a format (R80, R82, R83, R86). -/
def Format.bits : Format → Nat
  | .ctl4 => 4
  | .ser2 => 2
  | .blk1 => 1
  | .uncond => 0

/-- A number is a selector word of a format when it has no bit above the format's. -/
def Format.admits (f : Format) (w : Nat) : Bool := decide (w < 2 ^ f.bits)

/-- Every operation is well formed: no encoding is illegal or reserved, and every untested bit may have either value (R90). -/
def Instr.wf : Instr → Bool
  | .frameReset _ _ _ => true
  | .lineAdvance _ => true
  | .pixelAdvance => true
  | .holdV _ _ => true
  | .holdH => true
  | .latchB _ => true
  | .latchC => true
  | .shift => true
  | .blinkCount => true
  | .blinkToggle => true
  | .fetchCell => true
  | .fetchGlyph => true
  | .compose => true

/-- The memory of a configuration, its three tables, has its canonical form. -/
def Config.memoryWf (c : Config) : Bool := c.charBuf.wf && c.attrBuf.wf && c.glyph.wf

end Sys2Proof
end

