-- ==== Sys2Proof/Decode.lean ====
section
/-!
DEFINITION. The selection of operations by selector words, and the encoder (spec/30_encoding.md R80 to R83, R86, R94).
-/

namespace Sys2Proof

/-- Tracker decode, first match in the order FRAME_RESET, LINE_ADVANCE, PIXEL_ADVANCE, HOLD (R81). -/
def decodeCtl4 (w : Ctl) : Instr :=
  let vs := w.getLsbD 3
  let ve := w.getLsbD 2
  let hs := w.getLsbD 1
  let he := w.getLsbD 0
  if vs then .frameReset ve hs he
  else if hs && ve then .lineAdvance he
  else if ve && he then .pixelAdvance
  else if ve then .holdH
  else .holdV hs he

/-- Serializer decode: LATCH when `horizontal_enable` = 0 or `col_last` = 1, SHIFT otherwise (R82). -/
def decodeSer2 (w : SerSel) : Instr :=
  let he := w.getLsbD 1
  let colLast := w.getLsbD 0
  if he then (if colLast then .latchC else .shift) else .latchB colLast

/-- Oscillator decode (R83). -/
def decodeBlk1 (w : BlkSel) : Instr :=
  if w.getLsbD 0 then .blinkToggle else .blinkCount

/-- The operations performed in every tick whatever the inputs and the state (R86). -/
def unconditional : List Instr := [.fetchCell, .fetchGlyph, .compose]

/-- Why a number selects nothing. -/
inductive DecodeRefusal where
  /-- The number has bits above the format's selector word; the hardware has no such selector (R80, R82, R83). -/
  | tooWide (f : Format) (w : Nat)
deriving DecidableEq, Repr

/-- The operations a selector word of a format selects: exactly one for CTL4, SER2 and BLK1, all three unconditional ones for NONE
(R81, R82, R83, R86). Total; a number that is no selector word of the format is rejected by name. -/
def decode (f : Format) (w : Nat) : Except DecodeRefusal (List Instr) :=
  if f.admits w then
    .ok (match f with
      | .ctl4 => [decodeCtl4 (BitVec.ofNat 4 w)]
      | .ser2 => [decodeSer2 (BitVec.ofNat 2 w)]
      | .blk1 => [decodeBlk1 (BitVec.ofNat 1 w)]
      | .uncond => unconditional)
  else .error (.tooWide f w)

/-- The selector word of an operation: its row's pattern with the untested bits filled in (R94). -/
def encode : Instr → Nat
  | .frameReset e h n => 8 + 4 * e.toNat + 2 * h.toNat + n.toNat
  | .lineAdvance n => 6 + n.toNat
  | .pixelAdvance => 5
  | .holdV h n => 2 * h.toNat + n.toNat
  | .holdH => 4
  | .latchB c => c.toNat
  | .latchC => 3
  | .shift => 2
  | .blinkCount => 0
  | .blinkToggle => 1
  | .fetchCell => 0
  | .fetchGlyph => 0
  | .compose => 0

/-- `mask` and `match` of an operation's row of spec/opcode_table.json (R94): a selector word w selects the row when
w &&& mask = match. -/
def maskMatch : Instr → Nat × Nat
  | .frameReset _ _ _ => (0x8, 0x8)
  | .lineAdvance _ => (0xE, 0x6)
  | .pixelAdvance => (0xF, 0x5)
  | .holdV _ _ => (0xC, 0x0)
  | .holdH => (0xF, 0x4)
  | .latchB _ => (0x2, 0x0)
  | .latchC => (0x3, 0x3)
  | .shift => (0x3, 0x2)
  | .blinkCount => (0x1, 0x0)
  | .blinkToggle => (0x1, 0x1)
  | .fetchCell => (0x0, 0x0)
  | .fetchGlyph => (0x0, 0x0)
  | .compose => (0x0, 0x0)

/-- The format of a selector word given with its number of bits. The formats share their words, and a word of whole bytes does
not say its format: 1 bit is a BLK1 word, 2 bits a SER2 word, 0 bits NONE, any other number a CTL4 word
(notes/assumptions/12.md). -/
def formatOfBits : Nat → Format
  | 0 => .uncond
  | 1 => .blk1
  | 2 => .ser2
  | _ => .ctl4

/-- The operation the decoder reads from a selector word of `nbits` bits; none where it selects not exactly one. -/
def decodeTableWord (nbits w : Nat) : Option Instr :=
  match decode (formatOfBits nbits) w with
  | .ok [i] => some i
  | .ok _ => none
  | .error _ => none

end Sys2Proof
end

