-- ==== Sys2Proof/Machine/State.lean ====
section
/-!
DEFINITION. The state of the engine as plain data (spec/10_state.md R20 to R26), the reasons a step can stop, and the state at
power-on (R30, spec/70_reset_and_hazards.md R190).
-/

namespace Sys2Proof.Machine

/-- Scan State (R22), owned by the Scan Position Tracker. Each field is below 2^width: W_CELL, W_CELL, W_COL, W_ROW. -/
structure Scan where
  cellIndex : Nat
  rowStart : Nat
  columnInGlyph : Nat
  rowInGlyph : Nat
deriving DecidableEq, Repr

/-- The fetch pipeline registers (R23): the read-data registers of the three tables. `glyphQ` is a word of GW bits. -/
structure Fetch where
  charQ : Code8
  attrQ : Attr5
  glyphQ : Nat
deriving DecidableEq, Repr

/-- Render Latch (R24), owned by the Glyph Serializer. `shiftRegister` is a word of GW bits, bit 0 the pixel being emitted. -/
structure RenderLatch where
  shiftRegister : Nat
  latchedAttribute : Attr5
  underlineActive : Bool
deriving DecidableEq, Repr

/-- Blink State (R25), owned by the Blink Oscillator. `blinkCounter` is a word of W_BLINK bits. -/
structure Blink where
  blinkCounter : Nat
  blinkPhase : Bool
deriving DecidableEq, Repr

/-- The three output ports (spec/00_scope.md R10). -/
structure Rgb where
  red : Bool
  green : Bool
  blue : Bool
deriving DecidableEq, Repr

/-- All four Scan State registers 0, as FRAME_RESET leaves them (R30, R100). -/
def Scan.zero : Scan := { cellIndex := 0, rowStart := 0, columnInGlyph := 0, rowInGlyph := 0 }

/-- All three outputs 0. -/
def Rgb.black : Rgb := { red := false, green := false, blue := false }

/-- The engine during one tick: the twelve registers of R20 in their four groups, the configuration with the three tables (R26;
notes/assumptions/1.md), and three fields of the model's own. -/
structure State where
  /-- The configuration; no operation changes it (R6, R26). -/
  cfg : Config
  scan : Scan
  fetch : Fetch
  latch : RenderLatch
  blink : Blink
  /-- The model's own: the control words of the coming ticks (notes/assumptions/4.md). -/
  inputs : List Ctl
  /-- The model's own: the outputs of the tick just completed (notes/assumptions/6.md). -/
  out : Rgb
  /-- The model's own: the number of the tick, index of the free values (R9; notes/assumptions/7.md). -/
  tick : Nat
deriving DecidableEq, Repr

/-- The reasons a run stops with a fault: none. The engine raises no fault (spec/60_exceptions.md R170). -/
inductive Fault : Type where
deriving DecidableEq, Repr

/-- The reasons the model has no meaning. -/
inductive Refusal where
  /-- An operation that has no meaning yet. Raised by `exec` only, and by no arm of this model. Safe. -/
  | notModelled (mnemonic : String)
  /-- The configuration fails the listed checks of R8: no engine exists for it (R171). Raised when an engine is built and by a
  step from a state that holds such a configuration. Safe. -/
  | configError (failed : List ConfigCheck)
deriving DecidableEq, Repr

/-- Power-on of an engine with a given configuration: all twelve registers 0 (R30, R190). -/
def State.powerOn (c : Config) : State :=
  { cfg := c
    scan := Scan.zero
    fetch := { charQ := 0, attrQ := 0, glyphQ := 0 }
    latch := { shiftRegister := 0, latchedAttribute := 0, underlineActive := false }
    blink := { blinkCounter := 0, blinkPhase := false }
    inputs := []
    out := Rgb.black
    tick := 0 }

/-- Power-on of the spec's configuration TINY, the start state of the spec's programs (spec/95_test_vectors.md section 3;
notes/assumptions/2.md). -/
def State.reset : State := State.powerOn Config.tiny

end Sys2Proof.Machine
end

