-- ==== Sys2Proof/Machine/Ops.lean ====
section
/-!
DEFINITION. The named operations over the tables and the registers: the read of a table (spec/20_memory.md R50 to R59), the
scheduled writes of each component (spec/00_scope.md R14, spec/10_state.md R20), and the edge at which the writes of one tick
take effect together (spec/45_tick_composition.md R160 to R162).

The engine takes no exception, returns from none and stores nothing (spec/60_exceptions.md R170, R175, R177,
spec/20_memory.md R63), so there is no operation for these.
-/

namespace Sys2Proof.Machine

/-! ## The three address spaces -/

/-- The address spaces (R50). -/
inductive Space where
  | char | attr | glyph
deriving DecidableEq, Repr

/-- The number of words of a space (R50). -/
def Space.depth (c : Config) : Space → Nat
  | .char => c.totalCells
  | .attr => c.totalCells
  | .glyph => c.glyphDepth

/-- The word width of a space (R50). -/
def Space.width (c : Config) : Space → Nat
  | .char => 8
  | .attr => 5
  | .glyph => c.glyphWidth

/-- The table behind a space (R50). -/
def Space.table (c : Config) : Space → Table
  | .char => c.charBuf
  | .attr => c.attrBuf
  | .glyph => c.glyph

/-- What an address of a table reads as when it is not listed (notes/assumptions/20.md). -/
def unlistedWord : Nat := 0

/-- The word listed at an address, or what an unlisted address reads as. -/
def lookupWord (a : Nat) : List (Nat × Nat) → Nat
  | [] => unlistedWord
  | (b, v) :: rest => if a = b then v else lookupWord a rest

/-- The word a table holds at an address. -/
def tableRead (t : Table) (a : Nat) : Nat := lookupWord a t.cells

/-- The draw of a read beyond a table in the tick of the given number (R59; notes/assumptions/5.md). -/
def drawWord (c : Config) (tick : Nat) : Space → Nat
  | .char => (Config.drawChar tick).toNat
  | .attr => (Config.drawAttr tick).toNat
  | .glyph => (Config.drawGlyph c.glyphWidth tick).toNat

/-- `MemRead(SPACE:a, n)` (R14): the word at a word address; beyond the table, a draw (R59). It faults at no address. -/
def memRead (s : State) (sp : Space) (a : Nat) : Nat :=
  if a < sp.depth s.cfg then tableRead (sp.table s.cfg) a else drawWord s.cfg s.tick sp

/-! ## The scheduled writes, one for each component's registers (R20) -/

/-- The tracker's write of the Scan State. -/
def writeScan (s : State) (v : Scan) : State := { s with scan := v }

/-- FETCH_CELL's write of its two read-data registers. -/
def writeCell (s : State) (code : Code8) (attr : Attr5) : State :=
  { s with fetch := { s.fetch with charQ := code, attrQ := attr } }

/-- FETCH_GLYPH's write of its read-data register. -/
def writeGlyph (s : State) (row : Nat) : State := { s with fetch := { s.fetch with glyphQ := row } }

/-- The serializer's write of the Render Latch. -/
def writeLatch (s : State) (v : RenderLatch) : State := { s with latch := v }

/-- The oscillator's write of the Blink State. -/
def writeBlink (s : State) (v : Blink) : State := { s with blink := v }

/-- The compositor's drive of the outputs; no register is written (R151; notes/assumptions/6.md). -/
def driveOutputs (s : State) (v : Rgb) : State := { s with out := v }

/-- The increment of a register of the given width (R13): exact below 2^width - 1, and 0 after it. -/
def increment (width v : Nat) : Nat := (v + 1) % 2 ^ width

/-! ## Outcomes -/

/-- Go on with the next state of an outcome; a fault or a refusal stays. -/
def andThen (o : Host.Outcome State Fault Refusal) (k : State → Host.Outcome State Fault Refusal) :
    Host.Outcome State Fault Refusal :=
  match o with
  | .next s => k s
  | .fault r => .fault r
  | .refused r => .refused r

/-! ## The edge -/

/-- The edge that ends a tick (R160): from the state before it and what each of the tick's six operations makes of that same
state, the state after it. Each register comes from the one component that writes it (R20, R162); the input word is consumed
and the tick's number advances. -/
def commitEdge (s tracker cell glyph serializer oscillator compositor : State) : State :=
  { cfg := s.cfg
    scan := tracker.scan
    fetch := { charQ := cell.fetch.charQ, attrQ := cell.fetch.attrQ, glyphQ := glyph.fetch.glyphQ }
    latch := serializer.latch
    blink := oscillator.blink
    inputs := s.inputs.tail
    out := compositor.out
    tick := s.tick + 1 }

end Sys2Proof.Machine
end

