-- ==== Sys2Proof/Machine/Flags.lean ====
section
/-!
DEFINITION. The derived predicates (spec/00_scope.md R14): single bits, functions of the current state, recomputed every tick and
stored nowhere (spec/10_state.md R27); and the foreground predicate (spec/44_pixel_compositor.md R150).
-/

namespace Sys2Proof.Machine

/-- `col_zero = (column_in_glyph == 0)` (R14). -/
def colZero (s : State) : Bool := decide (s.scan.columnInGlyph = 0)

/-- `col_last = (column_in_glyph == GW-1)` (R14). -/
def colLast (s : State) : Bool := decide (s.scan.columnInGlyph = s.cfg.glyphWidth - 1)

/-- `row_last = (row_in_glyph == GH-1)` (R14). -/
def rowLast (s : State) : Bool := decide (s.scan.rowInGlyph = s.cfg.glyphHeight - 1)

/-- `blink_last = (blink_counter == P-1)` (R14). -/
def blinkLast (s : State) : Bool := decide (s.blink.blinkCounter = s.cfg.blinkHalfPeriod - 1)

/-- `A[3]`, the underline bit of an attribute word (R84). -/
def underlineBit (a : Attr5) : Bool := a.getLsbD 3

/-- `A[4]`, the blink bit of an attribute word (R84). -/
def blinkBit (a : Attr5) : Bool := a.getLsbD 4

/-- `fg = (shift_register[0] | (underline_active & A[3])) & (~A[4] | blink_phase)` (R150). -/
def foregroundActive (pixel underlineRow : Bool) (a : Attr5) (phase : Bool) : Bool :=
  (pixel || (underlineRow && underlineBit a)) && (!blinkBit a || phase)

end Sys2Proof.Machine
end

