-- ==== Sys2Proof/Machine/Operands.lean ====
section
/-!
DEFINITION. The operands (spec/30_encoding.md R89): the addresses of the table reads, the serializer's words, the colour bits of
an attribute, the sampled control word and the selector words of the other two selections (R82, R83).
-/

namespace Sys2Proof.Machine

/-! ## Addresses -/

/-- The address presented to both Cell Buffers (spec/20_memory.md R55). -/
def cellAddress (s : State) : Nat := s.scan.cellIndex

/-- `gaddr = char_q * GH + row_in_glyph`, exact (spec/20_memory.md R56, spec/41_fetch_pipeline.md R124). -/
def glyphAddress (s : State) : Nat := s.fetch.charQ.toNat * s.cfg.glyphHeight + s.scan.rowInGlyph

/-! ## Words of GW bits -/

/-- `rev_W(v)` (spec/00_scope.md R13): bit i is `v[W-1-i]`. -/
def revBits : Nat → Nat → Nat
  | 0, _ => 0
  | w + 1, v => (v % 2) * 2 ^ w + revBits w (v / 2)

/-- `v >> 1` on a word of w bits (R13): bit i is `v[i+1]` for i < w-1, bit w-1 is 0. -/
def shiftTowardZero (w v : Nat) : Nat := (v % 2 ^ w) / 2

/-- `shift_register[0]`, the pixel being emitted (spec/10_state.md R24). -/
def currentPixel (s : State) : Bool := s.latch.shiftRegister.testBit 0

/-! ## The colour bits of an attribute word (R84) -/

/-- `A[0]`, `attribute.color_bit_0`. -/
def redBit (a : Attr5) : Bool := a.getLsbD 0

/-- `A[1]`, `attribute.color_bit_1`. -/
def greenBit (a : Attr5) : Bool := a.getLsbD 1

/-- `A[2]`, `attribute.color_bit_2`. -/
def blueBit (a : Attr5) : Bool := a.getLsbD 2

/-- The three channels of a pixel: its colour bits where the foreground is active, else all 0 (spec/44_pixel_compositor.md R151,
R153). -/
def gateColour (fg : Bool) (a : Attr5) : Rgb :=
  { red := fg && redBit a, green := fg && greenBit a, blue := fg && blueBit a }

/-! ## Selection -/

/-- The control word sampled at the edge that ends this tick (spec/00_scope.md R9): the next queued word; where none is queued, a
free value (notes/assumptions/4.md). -/
def sampledCtl (s : State) : Ctl :=
  match s.inputs with
  | [] => Config.freeCtl s.tick
  | w :: _ => w

/-- `horizontal_enable` of a control word (R80). -/
def horizontalEnable (w : Ctl) : Bool := w.getLsbD 0

/-- `sel = {horizontal_enable, col_last}` (R82). -/
def serializerSelector (s : State) (w : Ctl) : SerSel :=
  BitVec.ofNat 2 (2 * (horizontalEnable w).toNat + (colLast s).toNat)

/-- `{blink_last}` (R83). -/
def oscillatorSelector (s : State) : BlkSel := BitVec.ofNat 1 (blinkLast s).toNat

/-! ## Placing a selector word where the next tick finds it (notes/assumptions/13.md) -/

/-- The Scan State whose `col_last` is the given bit: unchanged where it already is. -/
def scanWithColLast (s : State) (last : Bool) : Scan :=
  if colLast s = last then s.scan
  else { s.scan with columnInGlyph := if last then s.cfg.glyphWidth - 1 else 0 }

/-- The Blink State whose `blink_last` is the given bit: unchanged where it already is. -/
def blinkWithLast (s : State) (last : Bool) : Blink :=
  if blinkLast s = last then s.blink
  else { s.blink with
    blinkCounter := if last then s.cfg.blinkHalfPeriod - 1 else if s.cfg.blinkHalfPeriod = 1 then 1 else 0 }

/-- The state whose next tick finds the given selector word: a CTL4 word as the next control word; the `horizontal_enable` bit
of a SER2 word in the next control word and its `col_last` bit in the column counter; the `blink_last` bit of a BLK1 word in
the blink counter; nothing for NONE. -/
def placeSelector (s : State) (f : Format) (w : Nat) : State :=
  match f with
  | .ctl4 => { s with inputs := BitVec.ofNat 4 w :: s.inputs.tail }
  | .ser2 =>
    { s with
      inputs := ((sampledCtl s &&& 0xE#4) ||| (if w.testBit 1 then 1#4 else 0#4)) :: s.inputs.tail
      scan := scanWithColLast s (w.testBit 0) }
  | .blk1 => { s with blink := blinkWithLast s (w.testBit 0) }
  | .uncond => s

end Sys2Proof.Machine
end

