-- ==== Sys2Proof/Machine/Compositor.lean ====
section
/-!
DEFINITION. The Pixel Compositor's operation (spec/44_pixel_compositor.md R150, R151, R154).
-/

namespace Sys2Proof.Machine

/-- The outputs during a tick: a function of the Render Latch and the blink phase of that tick, not gated by the enables (R151,
R154, the spec's D11). -/
def composedOutputs (s : State) : Rgb :=
  gateColour
    (foregroundActive (currentPixel s) s.latch.underlineActive s.latch.latchedAttribute s.blink.blinkPhase)
    s.latch.latchedAttribute

/-- COMPOSE (R151). -/
def execCompose (s : State) : Host.Outcome State Fault Refusal := .next (driveOutputs s (composedOutputs s))

end Sys2Proof.Machine
end

