-- ==== Sys2Proof/Machine/FetchPipeline.lean ====
section
/-!
DEFINITION. The fetch pipeline's operations (spec/41_fetch_pipeline.md R120, R121).
-/

namespace Sys2Proof.Machine

/-- FETCH_CELL (R120): both Cell Buffers read at `cell_index`. -/
def execFetchCell (s : State) : Host.Outcome State Fault Refusal :=
  .next (writeCell s (BitVec.ofNat 8 (memRead s .char (cellAddress s))) (BitVec.ofNat 5 (memRead s .attr (cellAddress s))))

/-- FETCH_GLYPH (R121): the Glyph Store read at `char_q * GH + row_in_glyph`. -/
def execFetchGlyph (s : State) : Host.Outcome State Fault Refusal :=
  .next (writeGlyph s (memRead s .glyph (glyphAddress s)))

end Sys2Proof.Machine
end

