-- ==== Sys2Proof/Machine/Oscillator.lean ====
section
/-!
DEFINITION. The Blink Oscillator's operations (spec/43_blink_oscillator.md R140, R141). Each writes the Blink State and nothing
else.
-/

namespace Sys2Proof.Machine

/-- BLINK_COUNT (R140); above P-1 the counter wraps at its width (R144). -/
def execBlinkCount (s : State) : Host.Outcome State Fault Refusal :=
  .next (writeBlink s { s.blink with blinkCounter := increment s.cfg.wBlink s.blink.blinkCounter })

/-- BLINK_TOGGLE (R141). -/
def execBlinkToggle (s : State) : Host.Outcome State Fault Refusal :=
  .next (writeBlink s { blinkCounter := 0, blinkPhase := !s.blink.blinkPhase })

end Sys2Proof.Machine
end

