-- ==== Sys2Proof/Machine/Serializer.lean ====
section
/-!
DEFINITION. The Glyph Serializer's operations (spec/42_glyph_serializer.md R130, R131). Each writes the Render Latch and nothing
else.
-/

namespace Sys2Proof.Machine

/-- The Render Latch after LATCH (R130). -/
def latchedRow (s : State) : RenderLatch :=
  { shiftRegister := revBits s.cfg.glyphWidth s.fetch.glyphQ
    latchedAttribute := s.fetch.attrQ
    underlineActive := rowLast s }

/-- LATCH, pattern LATCH.B: `horizontal_enable` = 0 (R130). -/
def execLatchB (s : State) : Host.Outcome State Fault Refusal := .next (writeLatch s (latchedRow s))

/-- LATCH, pattern LATCH.C: `horizontal_enable` = 1 in the last column (R130). -/
def execLatchC (s : State) : Host.Outcome State Fault Refusal := .next (writeLatch s (latchedRow s))

/-- SHIFT (R131): toward bit 0, 0 into bit GW-1 (the spec's C1 and D8). -/
def execShift (s : State) : Host.Outcome State Fault Refusal :=
  .next (writeLatch s { s.latch with shiftRegister := shiftTowardZero s.cfg.glyphWidth s.latch.shiftRegister })

end Sys2Proof.Machine
end

