-- ==== Sys2Proof/Machine/Tracker.lean ====
section
/-!
DEFINITION. The Scan Position Tracker's operations (spec/40_scan_tracker.md R100 to R105). Each writes the Scan State and nothing
else.
-/

namespace Sys2Proof.Machine

/-- The Scan State after LINE_ADVANCE (R101): commit on the last scanline of a character row, roll back otherwise; the column to 0
in both cases. -/
def lineAdvanceScan (s : State) : Scan :=
  if rowLast s then
    { s.scan with rowStart := s.scan.cellIndex, rowInGlyph := 0, columnInGlyph := 0 }
  else
    { s.scan with
      cellIndex := s.scan.rowStart, rowInGlyph := increment s.cfg.wRow s.scan.rowInGlyph, columnInGlyph := 0 }

/-- The Scan State after PIXEL_ADVANCE (R102); the two conditions are independent. -/
def pixelAdvanceScan (s : State) : Scan :=
  { s.scan with
    cellIndex := if colZero s then increment s.cfg.wCell s.scan.cellIndex else s.scan.cellIndex
    columnInGlyph := if colLast s then 0 else increment s.cfg.wCol s.scan.columnInGlyph }

/-- FRAME_RESET (R100). -/
def execFrameReset (s : State) : Host.Outcome State Fault Refusal := .next (writeScan s Scan.zero)

/-- LINE_ADVANCE (R101). -/
def execLineAdvance (s : State) : Host.Outcome State Fault Refusal := .next (writeScan s (lineAdvanceScan s))

/-- PIXEL_ADVANCE (R102). -/
def execPixelAdvance (s : State) : Host.Outcome State Fault Refusal := .next (writeScan s (pixelAdvanceScan s))

/-- HOLD, pattern HOLD.V (R103): no Scan State register is written. -/
def execHoldV (s : State) : Host.Outcome State Fault Refusal := .next s

/-- HOLD, pattern HOLD.H (R103): no Scan State register is written. -/
def execHoldH (s : State) : Host.Outcome State Fault Refusal := .next s

end Sys2Proof.Machine
end

