-- ==== Sys2Proof/Machine/Dispatch.lean ====
section
/-!
DEFINITION. One arm per operation: what the operation alone makes of the state of a tick.
-/

namespace Sys2Proof.Machine

def exec (i : Instr) (s : State) : Host.Outcome State Fault Refusal :=
  match i with
  | .frameReset _ _ _ => Sys2Proof.Machine.execFrameReset s
  | .lineAdvance _ => Sys2Proof.Machine.execLineAdvance s
  | .pixelAdvance => Sys2Proof.Machine.execPixelAdvance s
  | .holdV _ _ => Sys2Proof.Machine.execHoldV s
  | .holdH => Sys2Proof.Machine.execHoldH s
  | .latchB _ => Sys2Proof.Machine.execLatchB s
  | .latchC => Sys2Proof.Machine.execLatchC s
  | .shift => Sys2Proof.Machine.execShift s
  | .blinkCount => Sys2Proof.Machine.execBlinkCount s
  | .blinkToggle => Sys2Proof.Machine.execBlinkToggle s
  | .fetchCell => Sys2Proof.Machine.execFetchCell s
  | .fetchGlyph => Sys2Proof.Machine.execFetchGlyph s
  | .compose => Sys2Proof.Machine.execCompose s

end Sys2Proof.Machine
end

