-- ==== Sys2Proof/Machine/Tick.lean ====
section
/-!
DEFINITION. TICK, the composition of one tick's operations (spec/45_tick_composition.md R160 to R163), and the construction of an
engine (spec/00_scope.md R8).
-/

namespace Sys2Proof.Machine

/-- The tick of an engine whose configuration is valid (R87, R160): one tracker operation, FETCH_CELL, FETCH_GLYPH, one serializer
operation, one oscillator operation and COMPOSE, each run on the same pre-edge state (R161), their writes taking effect
together. -/
def tickOperations (s : State) (w : Ctl) : Host.Outcome State Fault Refusal :=
  andThen (exec (decodeCtl4 w) s) fun tracker =>
  andThen (exec .fetchCell s) fun cell =>
  andThen (exec .fetchGlyph s) fun glyph =>
  andThen (exec (decodeSer2 (serializerSelector s w)) s) fun serializer =>
  andThen (exec (decodeBlk1 (oscillatorSelector s)) s) fun oscillator =>
  andThen (exec .compose s) fun compositor =>
  .next (commitEdge s tracker cell glyph serializer oscillator compositor)

/-- One tick with the control word of the input stream; for a configuration that fails a check of R8 there is no engine, and the
model refuses (R8, R171; notes/assumptions/9.md). -/
def runTick (s : State) : Host.Outcome State Fault Refusal :=
  if s.cfg.valid then tickOperations s (sampledCtl s) else .refused (.configError (failedChecks s.cfg))

/-- The construction of an engine (R8): its power-on state, or the configuration error. -/
def buildEngine (c : Config) : Host.Outcome State Fault Refusal :=
  if c.valid then .next (State.powerOn c) else .refused (.configError (failedChecks c))

end Sys2Proof.Machine
end

