-- ==== Sys2Proof/Machine/Step.lean ====
section
/-!
DEFINITION. One step of the engine: one tick (spec/00_scope.md R5), and the placing of a selector word where the next tick finds
it.
-/

namespace Sys2Proof.Machine

/-- One step: TICK (R160). -/
def step (s : State) : Host.Outcome State Fault Refusal := runTick s

/-- `s` with a selector word of `nbits` bits where the next tick finds it (notes/assumptions/12.md, notes/assumptions/13.md). -/
def State.withFetchWord (s : State) (nbits w : Nat) : State := placeSelector s (formatOfBits nbits) w

end Sys2Proof.Machine
end

