-- ==== Sys2Proof/Machine/Stimulus.lean ====
section
/-!
DEFINITION. The notation of input streams (spec/30_encoding.md R92, R93).
-/

namespace Sys2Proof.Machine

/-- The items of the notation (R92). -/
inductive StimulusItem where
  | vs | vbl | vbn | vhs | hbl | pix | hs
  | ctl (k : Ctl)
deriving DecidableEq, Repr

/-- The control word of an item (R92). -/
def StimulusItem.word : StimulusItem → Ctl
  | .vs => 0x8
  | .vbl => 0x0
  | .vbn => 0x1
  | .vhs => 0x2
  | .hbl => 0x4
  | .pix => 0x5
  | .hs => 0x6
  | .ctl k => k

/-- `item*n` as control words (R92). -/
def StimulusItem.times (i : StimulusItem) (n : Nat) : List Ctl := List.replicate n i.word

/-- The stream repeated n times (R92). -/
def repeatStream (n : Nat) (ws : List Ctl) : List Ctl := (List.replicate n ws).flatten

/-- `LINE(fp, bp)` (R93). -/
def stimulusLine (c : Config) (fp bp : Nat) : List Ctl :=
  StimulusItem.pix.times c.activeWidth ++ StimulusItem.hbl.times fp ++ StimulusItem.hs.times 1 ++ StimulusItem.hbl.times bp

/-- `FRAME(vpre, fp, bp, vpost)` (R93). -/
def stimulusFrame (c : Config) (vpre fp bp vpost : Nat) : List Ctl :=
  StimulusItem.vs.times 1 ++ StimulusItem.vbl.times vpre ++ repeatStream c.activeHeight (stimulusLine c fp bp) ++
    StimulusItem.vbl.times vpost

end Sys2Proof.Machine
end

