-- ==== Sys2Proof/Safety.lean ====
section
/-!
DEFINITION. The terms of the claims: runs, the invariants (spec/10_state.md R20, R33), the timing contract
(spec/70_reset_and_hazards.md R200), the picture (R201), and the tick as a sequence of operations
(spec/45_tick_composition.md R161, R162). No step uses anything here.
-/

namespace Sys2Proof.Machine

/-! ## Runs -/

/-- `k` ticks (R163). -/
def runTicks : Nat → State → Host.Outcome State Fault Refusal
  | 0, s => .next s
  | k + 1, s => andThen (step s) (runTicks k)

/-- One tick as a sequence of its operations in which each component runs before those whose registers it reads (R161): COMPOSE,
the serializer, FETCH_GLYPH, FETCH_CELL, the tracker, the oscillator, each on what the one before left, the selections made
on the state before the tick. -/
def readerFirstTick (s : State) : Host.Outcome State Fault Refusal :=
  andThen (exec .compose s) fun s1 =>
  andThen (exec (decodeSer2 (serializerSelector s (sampledCtl s))) s1) fun s2 =>
  andThen (exec .fetchGlyph s2) fun s3 =>
  andThen (exec .fetchCell s3) fun s4 =>
  andThen (exec (decodeCtl4 (sampledCtl s)) s4) fun s5 =>
  andThen (exec (decodeBlk1 (oscillatorSelector s)) s5) fun s6 =>
  .next { s6 with inputs := s6.inputs.tail, tick := s6.tick + 1 }

/-! ## Invariants -/

/-- Every register fits its width (R7, R20), and the configuration is one of the hardware (R8). -/
def registersFit (s : State) : Bool :=
  s.cfg.valid && decide (s.scan.cellIndex < 2 ^ s.cfg.wCell) && decide (s.scan.rowStart < 2 ^ s.cfg.wCell) &&
    decide (s.scan.columnInGlyph < 2 ^ s.cfg.wCol) && decide (s.scan.rowInGlyph < 2 ^ s.cfg.wRow) &&
    decide (s.fetch.glyphQ < 2 ^ s.cfg.glyphWidth) && decide (s.latch.shiftRegister < 2 ^ s.cfg.glyphWidth) &&
    decide (s.blink.blinkCounter < 2 ^ s.cfg.wBlink)

/-- The three counters are at most GW-1, GH-1 and P-1 (R33), and the configuration is one of the hardware. -/
def countersInRange (s : State) : Bool :=
  s.cfg.valid && decide (s.scan.columnInGlyph < s.cfg.glyphWidth) && decide (s.scan.rowInGlyph < s.cfg.glyphHeight) &&
    decide (s.blink.blinkCounter < s.cfg.blinkHalfPeriod)

/-! ## Classes of control words (R81), by the four inputs -/

/-- `vertical_sync` = 1. -/
def isFrameReset (w : Ctl) : Bool := w.getLsbD 3

/-- Not FRAME_RESET, `horizontal_sync` = 1 and `vertical_enable` = 1. -/
def isLineAdvance (w : Ctl) : Bool := !w.getLsbD 3 && w.getLsbD 2 && w.getLsbD 1

/-- Neither of these, `vertical_enable` = 1 and `horizontal_enable` = 1. -/
def isPixelAdvance (w : Ctl) : Bool := !w.getLsbD 3 && w.getLsbD 2 && !w.getLsbD 1 && w.getLsbD 0

/-- None of the three. -/
def isHold (w : Ctl) : Bool := !isFrameReset w && !isLineAdvance w && !isPixelAdvance w

/-! ## The timing contract (R200) -/

/-- At least three HOLD ticks, the last of which has `horizontal_enable` = 0 (R200 parts 2 and 3d). -/
def settles (ws : List Ctl) : Bool :=
  decide (3 ≤ ws.length) && ws.all isHold &&
    match ws.getLast? with
    | some w => !horizontalEnable w
    | none => false

/-- One line (R200 part 3): AW active ticks, then `front`, the line strobe, then `back`. -/
structure LineStream where
  front : List Ctl
  strobe : Ctl
  back : List Ctl
deriving DecidableEq, Repr

/-- The control words of a line. -/
def LineStream.words (c : Config) (l : LineStream) : List Ctl :=
  List.replicate c.activeWidth 0x5#4 ++ (l.front ++ l.strobe :: l.back)

/-- A line whose blanking ticks are HOLD ticks and whose strobe is one LINE_ADVANCE tick. -/
def LineStream.holds (l : LineStream) : Bool := l.front.all isHold && isLineAdvance l.strobe && l.back.all isHold

/-- A line after which the next line may start (R200 part 3d). -/
def LineStream.conforms (l : LineStream) : Bool := l.holds && settles l.back

/-- One frame (R200): FRAME_RESET ticks, blanking, the lines, blanking. -/
structure FrameStream where
  resets : List Ctl
  pre : List Ctl
  lines : List LineStream
  post : List Ctl
deriving DecidableEq, Repr

/-- The control words of a list of lines. -/
def lineWords (c : Config) (ls : List LineStream) : List Ctl := ls.flatMap (LineStream.words c)

/-- The control words of a frame. -/
def FrameStream.words (c : Config) (f : FrameStream) : List Ctl := f.resets ++ (f.pre ++ (lineWords c f.lines ++ f.post))

/-- The frame is as R200 says, but that part 1 may be empty. -/
def FrameStream.conforms (c : Config) (f : FrameStream) : Bool :=
  f.resets.all isFrameReset && settles f.pre && decide (f.lines.length = c.activeHeight) && f.lines.all LineStream.holds &&
    f.lines.dropLast.all LineStream.conforms && f.post.all isHold

/-- The tick of a frame, counted from its first, at which line y starts: t0(y) (R201). -/
def FrameStream.lineStart (c : Config) (f : FrameStream) (y : Nat) : Nat :=
  f.resets.length + f.pre.length + (lineWords c (f.lines.take y)).length

/-- The control words of a sequence of frames. -/
def streamWords (c : Config) (fs : List FrameStream) : List Ctl := fs.flatMap (FrameStream.words c)

/-- A conforming stream (R200): every frame conforms, and every frame but the first begins with a FRAME_RESET tick. -/
def streamConforms (c : Config) (fs : List FrameStream) : Bool :=
  fs.all (FrameStream.conforms c) && fs.tail.all fun f => !f.resets.isEmpty

/-- The first frame of a stream begins with a FRAME_RESET tick. -/
def startsWithReset (fs : List FrameStream) : Bool :=
  match fs with
  | [] => false
  | f :: _ => !f.resets.isEmpty

/-! ## The picture (R201) -/

/-- The pixel of column x and line y that R201 gives, for the blink phase of its tick. -/
def displayedPixel (c : Config) (x y : Nat) (phase : Bool) : Rgb :=
  let cell := (y / c.glyphHeight) * c.cellsPerRow + x / c.glyphWidth
  let code := tableRead c.charBuf cell
  let a : Attr5 := BitVec.ofNat 5 (tableRead c.attrBuf cell)
  let row := tableRead c.glyph (code * c.glyphHeight + y % c.glyphHeight)
  let bit := row.testBit (c.glyphWidth - 1 - x % c.glyphWidth)
  let underlineRow := decide (y % c.glyphHeight = c.glyphHeight - 1)
  let fg := (bit || (underlineRow && a.getLsbD 3)) && (!a.getLsbD 4 || phase)
  { red := fg && a.getLsbD 0, green := fg && a.getLsbD 1, blue := fg && a.getLsbD 2 }

end Sys2Proof.Machine
end

