-- ==== Sys2Proof/Certificates/Slice0/Obligations.lean ====
section
/-!
DEFINITION. The statements for the provers. Each docstring names the rule of spec/ the statement formalises; "D<n>" is a decision of
spec/92_eei_decisions.md, which the spec marks as its own.
-/

open Sys2Proof Sys2Proof.Machine

/-! ## Selection and encoding -/

/-- Words written out from the tables of 30_encoding.md R81, R82, R83 and R86 select the operations those tables give. -/
def Obligations.DecodeReadsSpecWords : Prop :=
  decode .ctl4 0b1101 = .ok [.frameReset true false true] ∧ decode .ctl4 0b0111 = .ok [.lineAdvance true] ∧
  decode .ctl4 0b0101 = .ok [.pixelAdvance] ∧ decode .ctl4 0b0011 = .ok [.holdV true true] ∧
  decode .ctl4 0b0100 = .ok [.holdH] ∧ decode .ser2 0b01 = .ok [.latchB true] ∧ decode .ser2 0b11 = .ok [.latchC] ∧
  decode .ser2 0b10 = .ok [.shift] ∧ decode .blk1 0b0 = .ok [.blinkCount] ∧ decode .blk1 0b1 = .ok [.blinkToggle] ∧
  decode .uncond 0 = .ok [.fetchCell, .fetchGlyph, .compose]

/-- Decode and encode agree, both ways: the selector word of every operation selects it, and a selector word of a format selects
exactly the operations of that format whose selector word it is (30_encoding.md R81 to R83, R86, R94). -/
def Obligations.DecodeAndEncodeAgree : Prop :=
  (∀ i : Instr, i.wf = true → ∃ l, decode i.format (encode i) = .ok l ∧ i ∈ l) ∧
  (∀ (f : Format) (w : Nat) (l : List Instr) (i : Instr),
    decode f w = .ok l → (i ∈ l ↔ i.format = f ∧ encode i = w))

/-- Every selector word is legal: it selects exactly one operation of CTL4, SER2 or BLK1, and the three unconditional ones of NONE; a
number too wide for the format is rejected by name (30_encoding.md R81, R82, R83, R86). -/
def Obligations.EverySelectorWordIsLegal : Prop :=
  ∀ (f : Format) (w : Nat),
    (w < 2 ^ f.bits →
      ∃ l, decode f w = .ok l ∧ l.length = (if f = .uncond then 3 else 1) ∧ ∀ i ∈ l, i.format = f) ∧
    (2 ^ f.bits ≤ w → decode f w = .error (.tooWide f w))

/-- The decoder follows the match and mask of opcode_table.json, and no selector word matches two rows of one of the formats CTL4,
SER2 and BLK1 (30_encoding.md R81 to R83, R94). -/
def Obligations.DecoderFollowsMatchAndMask : Prop :=
  (∀ (f : Format) (w : Nat) (l : List Instr) (i : Instr),
    decode f w = .ok l → i ∈ l → w &&& (maskMatch i).1 = (maskMatch i).2) ∧
  (∀ (f : Format) (w : Nat) (i j : Instr), f ≠ .uncond → w < 2 ^ f.bits → i.format = f → j.format = f →
    w &&& (maskMatch i).1 = (maskMatch i).2 → w &&& (maskMatch j).1 = (maskMatch j).2 → maskMatch i = maskMatch j)

/-! ## What each operation does -/

/-- FRAME_RESET (40_scan_tracker.md R100): selected by `vertical_sync` = 1 whatever the other inputs; from every state it zeroes the
Scan State and writes nothing else. -/
def Obligations.FrameResetZeroesScanState : Prop :=
  (∀ w : Ctl, w &&& 0x8#4 = 0x8#4 ↔ ∃ e h n, decodeCtl4 w = .frameReset e h n) ∧
  (∀ (e h n : Bool) (s : State),
    exec (.frameReset e h n) s =
      .next { s with scan := { cellIndex := 0, rowStart := 0, columnInGlyph := 0, rowInGlyph := 0 } })

/-- LINE_ADVANCE (40_scan_tracker.md R101): its selection, the commit on the last scanline, the roll back on the others, the column to
0 in both cases, nothing else written; the row counter in its range (10_state.md R33). -/
def Obligations.LineAdvanceCommitsOrRollsBack : Prop :=
  (∀ w : Ctl, w &&& 0xE#4 = 0x6#4 ↔ ∃ n, decodeCtl4 w = .lineAdvance n) ∧
  (∀ (n : Bool) (s : State), s.cfg.valid = true → s.scan.rowInGlyph < s.cfg.glyphHeight →
    exec (.lineAdvance n) s =
      .next { s with scan :=
        if s.scan.rowInGlyph = s.cfg.glyphHeight - 1 then
          { cellIndex := s.scan.cellIndex, rowStart := s.scan.cellIndex, columnInGlyph := 0, rowInGlyph := 0 }
        else
          { cellIndex := s.scan.rowStart, rowStart := s.scan.rowStart, columnInGlyph := 0,
            rowInGlyph := s.scan.rowInGlyph + 1 } })

/-- PIXEL_ADVANCE (40_scan_tracker.md R102): its selection, `cell_index` + 1 modulo 2^W_CELL in column 0, the column counter counting to
GW-1 and wrapping to 0, nothing else written. The width W_CELL is the spec's decision D6 (notes/assumptions/19.md). -/
def Obligations.PixelAdvanceCountsColumns : Prop :=
  (∀ w : Ctl, w = 0x5#4 ↔ decodeCtl4 w = .pixelAdvance) ∧
  (∀ s : State, s.cfg.valid = true → s.scan.columnInGlyph < s.cfg.glyphWidth →
    exec .pixelAdvance s =
      .next { s with scan :=
        { cellIndex :=
            if s.scan.columnInGlyph = 0 then (s.scan.cellIndex + 1) % 2 ^ (s.cfg.totalCells.log2 + 1) else s.scan.cellIndex
          rowStart := s.scan.rowStart
          columnInGlyph := if s.scan.columnInGlyph = s.cfg.glyphWidth - 1 then 0 else s.scan.columnInGlyph + 1
          rowInGlyph := s.scan.rowInGlyph } })

/-- HOLD (40_scan_tracker.md R103): the selection of its two patterns; nothing is written. The class is the spec's decision D19
(notes/assumptions/22.md). -/
def Obligations.HoldWritesNothing : Prop :=
  (∀ w : Ctl, w &&& 0xC#4 = 0x0#4 ↔ ∃ h n, decodeCtl4 w = .holdV h n) ∧
  (∀ w : Ctl, w = 0x4#4 ↔ decodeCtl4 w = .holdH) ∧
  (∀ (h n : Bool) (s : State), exec (.holdV h n) s = .next s) ∧
  (∀ s : State, exec .holdH s = .next s)

/-- FETCH_CELL (41_fetch_pipeline.md R120): both Cell Buffers are read at `cell_index` into `char_q` and `attr_q`, nothing else is
written; at an address of N or more both receive some word, without fault (20_memory.md R59, the spec's decision D10). The
statement holds for every value of that word. -/
def Obligations.FetchCellReadsBothBuffers : Prop :=
  ∀ s : State,
    (s.scan.cellIndex < s.cfg.totalCells →
      exec .fetchCell s =
        .next { s with fetch :=
          { charQ := BitVec.ofNat 8 (tableRead s.cfg.charBuf s.scan.cellIndex)
            attrQ := BitVec.ofNat 5 (tableRead s.cfg.attrBuf s.scan.cellIndex)
            glyphQ := s.fetch.glyphQ } }) ∧
    (s.cfg.totalCells ≤ s.scan.cellIndex →
      ∃ (code : Code8) (attr : Attr5),
        exec .fetchCell s = .next { s with fetch := { charQ := code, attrQ := attr, glyphQ := s.fetch.glyphQ } })

/-- FETCH_GLYPH (41_fetch_pipeline.md R121, R124; 20_memory.md R56): the Glyph Store is read at `char_q * GH + row_in_glyph`, exact, into
`glyph_q`, nothing else is written; beyond the table `glyph_q` receives some word of GW bits, without fault. The statement
holds for every value of that word. -/
def Obligations.FetchGlyphReadsCodeTimesHeightPlusRow : Prop :=
  ∀ s : State,
    (s.fetch.charQ.toNat * s.cfg.glyphHeight + s.scan.rowInGlyph < 256 * s.cfg.glyphHeight →
      exec .fetchGlyph s =
        .next { s with fetch :=
          { charQ := s.fetch.charQ, attrQ := s.fetch.attrQ
            glyphQ := tableRead s.cfg.glyph (s.fetch.charQ.toNat * s.cfg.glyphHeight + s.scan.rowInGlyph) } }) ∧
    (256 * s.cfg.glyphHeight ≤ s.fetch.charQ.toNat * s.cfg.glyphHeight + s.scan.rowInGlyph →
      ∃ row : Nat, row < 2 ^ s.cfg.glyphWidth ∧
        exec .fetchGlyph s =
          .next { s with fetch := { charQ := s.fetch.charQ, attrQ := s.fetch.attrQ, glyphQ := row } })

/-- LATCH (42_glyph_serializer.md R130): its selection, the fetched row with its bit order reversed, the fetched attribute word, and
whether the row counter is at its last scanline; nothing else is written. -/
def Obligations.LatchLoadsReversedRow : Prop :=
  (∀ w : SerSel, (w &&& 0b10#2 = 0b00#2 ↔ ∃ c, decodeSer2 w = .latchB c) ∧ (w = 0b11#2 ↔ decodeSer2 w = .latchC)) ∧
  (∀ (c : Bool) (s : State), ∃ row : Nat,
    (∀ i, row.testBit i = (decide (i < s.cfg.glyphWidth) && s.fetch.glyphQ.testBit (s.cfg.glyphWidth - 1 - i))) ∧
    exec (.latchB c) s =
      .next { s with latch :=
        { shiftRegister := row, latchedAttribute := s.fetch.attrQ
          underlineActive := decide (s.scan.rowInGlyph = s.cfg.glyphHeight - 1) } } ∧
    exec .latchC s = exec (.latchB c) s)

/-- SHIFT (42_glyph_serializer.md R131): its selection, every bit of the shift register moves one position toward bit 0 and 0 enters at
bit GW-1; nothing else is written. The direction is the spec's resolution C1, the 0 its decision D8 (notes/assumptions/15.md). -/
def Obligations.ShiftMovesTowardBitZero : Prop :=
  (∀ w : SerSel, w = 0b10#2 ↔ decodeSer2 w = .shift) ∧
  (∀ s : State, ∃ row : Nat,
    (∀ i, row.testBit i = (decide (i + 1 < s.cfg.glyphWidth) && s.latch.shiftRegister.testBit (i + 1))) ∧
    exec .shift s =
      .next { s with latch :=
        { shiftRegister := row, latchedAttribute := s.latch.latchedAttribute
          underlineActive := s.latch.underlineActive } })

/-- BLINK_COUNT (43_blink_oscillator.md R140): selected by `blink_last` = 0; the counter is incremented, the phase and everything else
keep their values. -/
def Obligations.BlinkCountIncrementsCounter : Prop :=
  (∀ w : BlkSel, w = 0b0#1 ↔ decodeBlk1 w = .blinkCount) ∧
  (∀ s : State, s.cfg.valid = true → s.blink.blinkCounter < s.cfg.blinkHalfPeriod - 1 →
    exec .blinkCount s =
      .next { s with blink := { blinkCounter := s.blink.blinkCounter + 1, blinkPhase := s.blink.blinkPhase } })

/-- BLINK_TOGGLE (43_blink_oscillator.md R141): selected by `blink_last` = 1; the counter to 0, the phase inverted, nothing else
written. -/
def Obligations.BlinkToggleInvertsPhase : Prop :=
  (∀ w : BlkSel, w = 0b1#1 ↔ decodeBlk1 w = .blinkToggle) ∧
  (∀ s : State,
    exec .blinkToggle s = .next { s with blink := { blinkCounter := 0, blinkPhase := !s.blink.blinkPhase } })

/-- COMPOSE (44_pixel_compositor.md R150, R151): the outputs are the foreground predicate gated by the colour bits of the latched
attribute; no register is written. That they are neither registered nor gated by the enables is the spec's decision D11
(notes/assumptions/16.md). -/
def Obligations.ComposeDrivesForegroundColour : Prop :=
  ∀ s : State,
    let a := s.latch.latchedAttribute
    let fg := (s.latch.shiftRegister.testBit 0 || (s.latch.underlineActive && a.getLsbD 3)) &&
      (!a.getLsbD 4 || s.blink.blinkPhase)
    exec .compose s =
      .next { s with out := { red := fg && a.getLsbD 0, green := fg && a.getLsbD 1, blue := fg && a.getLsbD 2 } }

/-- From an arbitrary state a counter above its maximum goes on modulo 2^width (10_state.md R33, 43_blink_oscillator.md R144,
93_implementation_defined.md U11; notes/assumptions/21.md): the forms of LINE_ADVANCE, PIXEL_ADVANCE and BLINK_COUNT that the
statements above leave out. -/
def Obligations.CounterAboveItsMaximumWraps : Prop :=
  ∀ (n : Bool) (s : State),
    (s.scan.rowInGlyph ≠ s.cfg.glyphHeight - 1 →
      exec (.lineAdvance n) s =
        .next { s with scan :=
          { cellIndex := s.scan.rowStart, rowStart := s.scan.rowStart, columnInGlyph := 0,
            rowInGlyph := (s.scan.rowInGlyph + 1) % 2 ^ s.cfg.wRow } }) ∧
    (s.scan.columnInGlyph ≠ s.cfg.glyphWidth - 1 →
      exec .pixelAdvance s =
        .next { s with scan :=
          { cellIndex :=
              if s.scan.columnInGlyph = 0 then (s.scan.cellIndex + 1) % 2 ^ s.cfg.wCell else s.scan.cellIndex
            rowStart := s.scan.rowStart
            columnInGlyph := (s.scan.columnInGlyph + 1) % 2 ^ s.cfg.wCol
            rowInGlyph := s.scan.rowInGlyph } }) ∧
    exec .blinkCount s =
      .next { s with blink :=
        { blinkCounter := (s.blink.blinkCounter + 1) % 2 ^ s.cfg.wBlink, blinkPhase := s.blink.blinkPhase } }

/-! ## What each operation leaves unchanged -/

/-- A tracker operation writes the Scan State only; PIXEL_ADVANCE keeps `row_start` and `row_in_glyph`, HOLD all four registers; every
word of every space reads as before (40_scan_tracker.md R100 to R103, 20_memory.md R54, R63). -/
def Obligations.TrackerOperationsFrame : Prop :=
  ∀ (i : Instr) (s t : State), i.format = .ctl4 → exec i s = .next t →
    t.cfg = s.cfg ∧ t.fetch = s.fetch ∧ t.latch = s.latch ∧ t.blink = s.blink ∧ t.inputs = s.inputs ∧ t.out = s.out ∧
    t.tick = s.tick ∧ (∀ sp a, memRead t sp a = memRead s sp a) ∧
    (i = .pixelAdvance → t.scan.rowStart = s.scan.rowStart ∧ t.scan.rowInGlyph = s.scan.rowInGlyph) ∧
    (i = .holdH ∨ (∃ h n, i = .holdV h n) → t.scan = s.scan)

/-- A serializer operation writes the Render Latch only, SHIFT only its shift register; every word of every space reads as before
(42_glyph_serializer.md R130, R131, 20_memory.md R54, R63). -/
def Obligations.SerializerOperationsFrame : Prop :=
  ∀ (i : Instr) (s t : State), i.format = .ser2 → exec i s = .next t →
    t.cfg = s.cfg ∧ t.scan = s.scan ∧ t.fetch = s.fetch ∧ t.blink = s.blink ∧ t.inputs = s.inputs ∧ t.out = s.out ∧
    t.tick = s.tick ∧ (∀ sp a, memRead t sp a = memRead s sp a) ∧
    (i = .shift → t.latch.latchedAttribute = s.latch.latchedAttribute ∧ t.latch.underlineActive = s.latch.underlineActive)

/-- An oscillator operation writes the Blink State only, BLINK_COUNT only its counter; every word of every space reads as before
(43_blink_oscillator.md R140, R141, 20_memory.md R54, R63). -/
def Obligations.OscillatorOperationsFrame : Prop :=
  ∀ (i : Instr) (s t : State), i.format = .blk1 → exec i s = .next t →
    t.cfg = s.cfg ∧ t.scan = s.scan ∧ t.fetch = s.fetch ∧ t.latch = s.latch ∧ t.inputs = s.inputs ∧ t.out = s.out ∧
    t.tick = s.tick ∧ (∀ sp a, memRead t sp a = memRead s sp a) ∧
    (i = .blinkCount → t.blink.blinkPhase = s.blink.blinkPhase)

/-- FETCH_CELL writes `char_q` and `attr_q` only, FETCH_GLYPH `glyph_q` only; every word of every space reads as before
(41_fetch_pipeline.md R120, R121, R125, 20_memory.md R58, R63). -/
def Obligations.FetchOperationsFrame : Prop :=
  ∀ (i : Instr) (s t : State), (i = .fetchCell ∨ i = .fetchGlyph) → exec i s = .next t →
    t.cfg = s.cfg ∧ t.scan = s.scan ∧ t.latch = s.latch ∧ t.blink = s.blink ∧ t.inputs = s.inputs ∧ t.out = s.out ∧
    t.tick = s.tick ∧ (∀ sp a, memRead t sp a = memRead s sp a) ∧
    (i = .fetchCell → t.fetch.glyphQ = s.fetch.glyphQ) ∧
    (i = .fetchGlyph → t.fetch.charQ = s.fetch.charQ ∧ t.fetch.attrQ = s.fetch.attrQ)

/-- COMPOSE writes no register: only the outputs change; every word of every space reads as before (44_pixel_compositor.md R151,
20_memory.md R54, R63). -/
def Obligations.ComposeFrame : Prop :=
  ∀ s t : State, exec .compose s = .next t →
    t.cfg = s.cfg ∧ t.scan = s.scan ∧ t.fetch = s.fetch ∧ t.latch = s.latch ∧ t.blink = s.blink ∧ t.inputs = s.inputs ∧
    t.tick = s.tick ∧ (∀ sp a, memRead t sp a = memRead s sp a)

/-! ## The tick -/

/-- A step runs the decoded operations: where the sampled control word, the serializer's selector and the oscillator's selector
select `ti`, `si` and `bi`, the step is these three with FETCH_CELL, FETCH_GLYPH and COMPOSE, each run on the state before the
tick, every register taken from the operation that owns it; the control word is consumed and the tick counted
(30_encoding.md R87, 45_tick_composition.md R160 to R162). -/
def Obligations.StepRunsDecodedOperations : Prop :=
  ∀ (s : State) (ti si bi : Instr) (a b c d e f : State), s.cfg.valid = true →
    decode .ctl4 (sampledCtl s).toNat = .ok [ti] →
    decode .ser2 (2 * ((sampledCtl s).getLsbD 0).toNat + (colLast s).toNat) = .ok [si] →
    decode .blk1 (blinkLast s).toNat = .ok [bi] →
    exec ti s = .next a → exec si s = .next b → exec bi s = .next c →
    exec .fetchCell s = .next d → exec .fetchGlyph s = .next e → exec .compose s = .next f →
    step s =
      .next { cfg := s.cfg, scan := a.scan,
              fetch := { charQ := d.fetch.charQ, attrQ := d.fetch.attrQ, glyphQ := e.fetch.glyphQ },
              latch := b.latch, blink := c.blink, inputs := s.inputs.tail, out := f.out, tick := s.tick + 1 }

/-- A selector word placed where the next tick finds it is run by that tick: the registers of its component are then those its
operation gives (notes/assumptions/12.md, notes/assumptions/13.md; the model's own). -/
def Obligations.PlacedWordIsRunByNextStep : Prop :=
  ∀ (s : State) (nbits w : Nat) (i : Instr), s.cfg.valid = true → decodeTableWord nbits w = some i →
    ∃ a t, exec i (s.withFetchWord nbits w) = .next a ∧ step (s.withFetchWord nbits w) = .next t ∧
      (i.format = .ctl4 → t.scan = a.scan) ∧ (i.format = .ser2 → t.latch = a.latch) ∧
      (i.format = .blk1 → t.blink = a.blink)

/-- TICK in one piece (45_tick_composition.md R160): the outputs of the tick and the next value of all twelve registers, each
right-hand side read before the edge; `MemRead` is `memRead`, `rev_GW` is `revBits`. -/
def Obligations.TickComputesEveryRegister : Prop :=
  ∀ s : State, countersInRange s = true →
    let w := sampledCtl s
    let vs := w.getLsbD 3
    let ve := w.getLsbD 2
    let hs := w.getLsbD 1
    let he := w.getLsbD 0
    let gw := s.cfg.glyphWidth
    let gh := s.cfg.glyphHeight
    let a := s.latch.latchedAttribute
    let fg := (s.latch.shiftRegister.testBit 0 || (s.latch.underlineActive && a.getLsbD 3)) &&
      (!a.getLsbD 4 || s.blink.blinkPhase)
    step s =
      .next
        { cfg := s.cfg
          scan :=
            if vs then { cellIndex := 0, rowStart := 0, columnInGlyph := 0, rowInGlyph := 0 }
            else if hs && ve then
              if s.scan.rowInGlyph = gh - 1 then
                { cellIndex := s.scan.cellIndex, rowStart := s.scan.cellIndex, columnInGlyph := 0, rowInGlyph := 0 }
              else
                { cellIndex := s.scan.rowStart, rowStart := s.scan.rowStart, columnInGlyph := 0,
                  rowInGlyph := s.scan.rowInGlyph + 1 }
            else if ve && he then
              { cellIndex :=
                  if s.scan.columnInGlyph = 0 then (s.scan.cellIndex + 1) % 2 ^ s.cfg.wCell else s.scan.cellIndex
                rowStart := s.scan.rowStart
                columnInGlyph := if s.scan.columnInGlyph = gw - 1 then 0 else s.scan.columnInGlyph + 1
                rowInGlyph := s.scan.rowInGlyph }
            else s.scan
          fetch :=
            { charQ := BitVec.ofNat 8 (memRead s .char s.scan.cellIndex)
              attrQ := BitVec.ofNat 5 (memRead s .attr s.scan.cellIndex)
              glyphQ := memRead s .glyph (s.fetch.charQ.toNat * gh + s.scan.rowInGlyph) }
          latch :=
            if !he || decide (s.scan.columnInGlyph = gw - 1) then
              { shiftRegister := revBits gw s.fetch.glyphQ, latchedAttribute := s.fetch.attrQ
                underlineActive := decide (s.scan.rowInGlyph = gh - 1) }
            else { s.latch with shiftRegister := (s.latch.shiftRegister % 2 ^ gw) / 2 }
          blink :=
            if s.blink.blinkCounter = s.cfg.blinkHalfPeriod - 1 then
              { blinkCounter := 0, blinkPhase := !s.blink.blinkPhase }
            else { blinkCounter := s.blink.blinkCounter + 1, blinkPhase := s.blink.blinkPhase }
          inputs := s.inputs.tail
          out := { red := fg && a.getLsbD 0, green := fg && a.getLsbD 1, blue := fg && a.getLsbD 2 }
          tick := s.tick + 1 }

/-- TICK is total (45_tick_composition.md R163, 60_exceptions.md R170): from every state of every valid configuration, under every
control word, every number of ticks completes, without fault or refusal. -/
def Obligations.EveryTickCompletes : Prop :=
  ∀ (k : Nat) (s : State), s.cfg.valid = true →
    ∃ t, runTicks k s = .next t ∧ t.inputs = s.inputs.drop k ∧ t.tick = s.tick + k

/-- A configuration that fails a check of 00_scope.md R8 has no engine: building one and stepping from a state that holds it are
refused with exactly the failed checks; any other is built to its power-on state. That every failed check is reported is
the model's choice (notes/assumptions/9.md, notes/assumptions/10.md); the list of checks is the spec's decision D13. -/
def Obligations.InvalidConfigurationIsRefused : Prop :=
  ∀ c : Config,
    (c.valid = true → buildEngine c = .next (State.powerOn c)) ∧
    (c.valid = false →
      ∃ l, buildEngine c = .refused (.configError l) ∧ l ≠ [] ∧ (∀ k, k ∈ l ↔ k.passes c = false) ∧
        ∀ s : State, s.cfg = c → step s = .refused (.configError l))

/-- Read before write as a sequence (45_tick_composition.md R161, R162, the spec's decision D20, notes/assumptions/23.md): running the six
operations one after the other, each component before those whose registers it reads, is the tick. -/
def Obligations.ReaderFirstSequenceIsTheTick : Prop :=
  ∀ s : State, s.cfg.valid = true → step s = readerFirstTick s

/-- Priority (40_scan_tracker.md R104): each tick performs exactly one tracker operation, by first match in the order FRAME_RESET,
LINE_ADVANCE, PIXEL_ADVANCE, HOLD. That the fourth, HOLD, keeps the Scan State (R103) is the spec's decision D19
(notes/assumptions/22.md). -/
def Obligations.TrackerFirstMatchWins : Prop :=
  ∀ s : State, s.cfg.valid = true →
    let w := sampledCtl s
    ∃ t, step s = .next t ∧
      (w.getLsbD 3 = true → t.scan = Scan.zero) ∧
      (w.getLsbD 3 = false → w.getLsbD 1 = true → w.getLsbD 2 = true →
        ∃ n a, exec (.lineAdvance n) s = .next a ∧ t.scan = a.scan) ∧
      (w.getLsbD 3 = false → (w.getLsbD 1 && w.getLsbD 2) = false → w.getLsbD 2 = true → w.getLsbD 0 = true →
        ∃ a, exec .pixelAdvance s = .next a ∧ t.scan = a.scan) ∧
      (w.getLsbD 3 = false → (w.getLsbD 1 && w.getLsbD 2) = false → (w.getLsbD 2 && w.getLsbD 0) = false →
        t.scan = s.scan)

/-- Frame reset idempotence (40_scan_tracker.md R110): `vertical_sync` for k >= 1 ticks from any state leaves the Scan State 0 after each
of them, whatever the other inputs. -/
def Obligations.FrameResetIdempotence : Prop :=
  ∀ (s : State) (ws rest : List Ctl), s.cfg.valid = true → s.inputs = ws ++ rest → ws.all isFrameReset = true →
    ∀ k, 1 ≤ k → k ≤ ws.length → ∃ t, runTicks k s = .next t ∧ t.scan = Scan.zero

/-- Level sampling (40_scan_tracker.md R106, the spec's decision D4): a line strobe held for k ticks advances k scanlines, wrapping at
GH. -/
def Obligations.HeldLineStrobeAdvancesEveryTick : Prop :=
  ∀ (s : State) (ws rest : List Ctl), countersInRange s = true → s.inputs = ws ++ rest →
    ws.all isLineAdvance = true →
    ∀ k, k ≤ ws.length →
      ∃ t, runTicks k s = .next t ∧ t.scan.rowInGlyph = (s.scan.rowInGlyph + k) % s.cfg.glyphHeight ∧
        (1 ≤ k → t.scan.columnInGlyph = 0)

/-! ## Invariants -/

/-- Every step keeps every register within its width and the configuration valid (10_state.md R20, 00_scope.md R7; the widths are the
spec's decision D6). -/
def Obligations.StepKeepsRegisterWidths : Prop :=
  ∀ s t : State, registersFit s = true → step s = .next t → registersFit t = true

/-- Every step keeps `column_in_glyph` <= GW-1, `row_in_glyph` <= GH-1 and `blink_counter` <= P-1, under every input (10_state.md
R33). -/
def Obligations.StepKeepsCounterRanges : Prop :=
  ∀ s t : State, countersInRange s = true → step s = .next t → countersInRange t = true

/-- The power-on state of every valid configuration meets both invariants (10_state.md R30, R33, R20), and its tables are in canonical
form; so does State.reset. The zeros of the eight registers outside the Scan State are the spec's decision D9
(notes/assumptions/3.md), the widths its decision D6 (notes/assumptions/19.md). That State.reset is the power-on state of TINY
and that tables are canonical lists are the model's choices (notes/assumptions/2.md, notes/assumptions/20.md). -/
def Obligations.PowerOnMeetsInvariants : Prop :=
  (∀ c : Config, c.valid = true →
    registersFit (State.powerOn c) = true ∧ countersInRange (State.powerOn c) = true ∧ c.memoryWf = true) ∧
  registersFit State.reset = true ∧ countersInRange State.reset = true

/-- Power-on (10_state.md R30, R32, 70_reset_and_hazards.md R190): every register of every configuration is 0, and the outputs of tick 0
are (0, 0, 0) under every input stream. The zeros of the eight registers outside the Scan State are the spec's decision D9
(notes/assumptions/3.md). -/
def Obligations.PowerOnRegistersZeroAndFirstOutputBlack : Prop :=
  ∀ c : Config,
    (State.powerOn c).cfg = c ∧
    (State.powerOn c).scan = { cellIndex := 0, rowStart := 0, columnInGlyph := 0, rowInGlyph := 0 } ∧
    (State.powerOn c).fetch = { charQ := 0, attrQ := 0, glyphQ := 0 } ∧
    (State.powerOn c).latch = { shiftRegister := 0, latchedAttribute := 0, underlineActive := false } ∧
    (State.powerOn c).blink = { blinkCounter := 0, blinkPhase := false } ∧
    (c.valid = true → ∀ ws : List Ctl, ∃ t, step { State.powerOn c with inputs := ws } = .next t ∧
      t.out = { red := false, green := false, blue := false })

/-- The corrected bound of 10_state.md R34, over runs: in a conforming stream, at every tick after the first FRAME_RESET, `row_start` <=
`cell_index` <= N. -/
def Obligations.ScanIndexBoundsUnderContract : Prop :=
  ∀ (s : State) (fs : List FrameStream) (rest : List Ctl), s.cfg.valid = true →
    streamConforms s.cfg fs = true → (startsWithReset fs = true ∨ s.scan = Scan.zero) →
    s.inputs = streamWords s.cfg fs ++ rest →
    ∀ k, 1 ≤ k → k ≤ (streamWords s.cfg fs).length →
      ∃ t, runTicks k s = .next t ∧ t.scan.rowStart ≤ t.scan.cellIndex ∧ t.scan.cellIndex ≤ s.cfg.totalCells

/-- The engine performs no write (20_memory.md R63, 10_state.md R26): after any number of ticks every word of every table reads as
before. That contents are constant for the run is the spec's decision D12 (notes/assumptions/17.md). -/
def Obligations.RunsNeverChangeTables : Prop :=
  ∀ (k : Nat) (s t : State), runTicks k s = .next t →
    t.cfg = s.cfg ∧ ∀ (sp : Space) (a : Nat), a < sp.depth s.cfg → memRead t sp a = memRead s sp a

/-! ## Trajectories -/

/-- One scan line (40_scan_tracker.md R108): x ticks into a run of active ticks, `column_in_glyph` = x mod GW and `cell_index` = R +
ceil(x / GW); `row_start` and `row_in_glyph` are unchanged. Outside the timing contract the sum is taken modulo 2^W_CELL: that
is R102 and 10_state.md R34, with the width of the spec's decision D6 (notes/assumptions/19.md). -/
def Obligations.ScanLineTrajectory : Prop :=
  ∀ (s : State) (m : Nat) (rest : List Ctl), registersFit s = true → s.scan.columnInGlyph = 0 →
    s.inputs = List.replicate m 0x5#4 ++ rest →
    ∀ x, x ≤ m →
      ∃ t, runTicks x s = .next t ∧
        t.scan =
          { cellIndex := (s.scan.cellIndex + (x + s.cfg.glyphWidth - 1) / s.cfg.glyphWidth) % 2 ^ s.cfg.wCell
            rowStart := s.scan.rowStart
            columnInGlyph := x % s.cfg.glyphWidth
            rowInGlyph := s.scan.rowInGlyph }

/-- Row repeat count (40_scan_tracker.md R109): a character row entered at R is scanned GH times, each time over the addresses R to
R + CPR, before `row_start` moves on to R + CPR. -/
def Obligations.CharacterRowIsScannedGlyphHeightTimes : Prop :=
  ∀ (s : State) (r : Nat) (lines : List LineStream) (rest : List Ctl), s.cfg.valid = true →
    s.scan = { cellIndex := r, rowStart := r, columnInGlyph := 0, rowInGlyph := 0 } →
    r + s.cfg.cellsPerRow ≤ s.cfg.totalCells →
    lines.length = s.cfg.glyphHeight → lines.all LineStream.holds = true →
    s.inputs = lineWords s.cfg lines ++ rest →
    (∀ j, j ≤ s.cfg.glyphHeight →
      ∃ t, runTicks (lineWords s.cfg (lines.take j)).length s = .next t ∧
        t.scan =
          if j < s.cfg.glyphHeight then { cellIndex := r, rowStart := r, columnInGlyph := 0, rowInGlyph := j }
          else { cellIndex := r + s.cfg.cellsPerRow, rowStart := r + s.cfg.cellsPerRow, columnInGlyph := 0,
                 rowInGlyph := 0 }) ∧
    (∀ j x, j < s.cfg.glyphHeight → x ≤ s.cfg.activeWidth →
      ∃ t, runTicks ((lineWords s.cfg (lines.take j)).length + x) s = .next t ∧
        t.scan.cellIndex = r + (x + s.cfg.glyphWidth - 1) / s.cfg.glyphWidth ∧ t.scan.rowStart = r ∧
        t.scan.rowInGlyph = j)

/-- One frame (40_scan_tracker.md R111): the Scan State at the first active tick of every line y, and in every tick of the frame after
the line strobe of the last line. The tick count `lineStart AH` ends the last line; the strobe stands `back` ticks before it. -/
def Obligations.FrameScanPositions : Prop :=
  ∀ (s : State) (f : FrameStream) (rest : List Ctl), s.cfg.valid = true → f.conforms s.cfg = true →
    (f.resets ≠ [] ∨ s.scan = Scan.zero) → s.inputs = f.words s.cfg ++ rest →
    (∀ y, y < s.cfg.activeHeight →
      ∃ t, runTicks (f.lineStart s.cfg y) s = .next t ∧
        t.scan =
          { cellIndex := (y / s.cfg.glyphHeight) * s.cfg.cellsPerRow
            rowStart := (y / s.cfg.glyphHeight) * s.cfg.cellsPerRow
            columnInGlyph := 0
            rowInGlyph := y % s.cfg.glyphHeight }) ∧
    (∀ (last : LineStream) (k : Nat), f.lines.getLast? = some last →
      f.lineStart s.cfg s.cfg.activeHeight ≤ k + last.back.length → k ≤ (f.words s.cfg).length →
      ∃ t, runTicks k s = .next t ∧
        t.scan =
          { cellIndex := s.cfg.totalCells, rowStart := s.cfg.totalCells, columnInGlyph := 0, rowInGlyph := 0 })

/-- End-to-end latency (41_fetch_pipeline.md R122): the attribute and the code are one tick behind the cell address, the glyph row is two
ticks behind it and one behind the row counter. -/
def Obligations.FetchLatencyIsTwoTicks : Prop :=
  ∀ s : State, s.cfg.valid = true →
    ∃ a b, runTicks 1 s = .next a ∧ runTicks 2 s = .next b ∧
      (s.scan.cellIndex < s.cfg.totalCells →
        a.fetch.charQ.toNat = tableRead s.cfg.charBuf s.scan.cellIndex ∧
        a.fetch.attrQ.toNat = tableRead s.cfg.attrBuf s.scan.cellIndex ∧
        (a.scan.rowInGlyph < s.cfg.glyphHeight →
          b.fetch.glyphQ =
            tableRead s.cfg.glyph
              (tableRead s.cfg.charBuf s.scan.cellIndex * s.cfg.glyphHeight + a.scan.rowInGlyph)))

/-- Contents during a glyph span (42_glyph_serializer.md R132): with the reversed row word g in the shift register and GW active ticks
from column 0, tick j shows pixel j of the row, the attribute and the underline flag stand still, and the last of them loads
the next row. -/
def Obligations.GlyphSpanShowsRowLeftToRight : Prop :=
  ∀ (s : State) (g : Nat) (rest : List Ctl), s.cfg.valid = true → s.scan.columnInGlyph = 0 →
    (∀ i, s.latch.shiftRegister.testBit i = (decide (i < s.cfg.glyphWidth) && g.testBit (s.cfg.glyphWidth - 1 - i))) →
    s.inputs = List.replicate s.cfg.glyphWidth 0x5#4 ++ rest →
    (∀ j, j < s.cfg.glyphWidth →
      ∃ t, runTicks j s = .next t ∧ t.scan.columnInGlyph = j ∧
        t.latch.shiftRegister.testBit 0 = g.testBit (s.cfg.glyphWidth - 1 - j) ∧
        (∀ i, t.latch.shiftRegister.testBit i =
          (decide (j + i < s.cfg.glyphWidth) && g.testBit (s.cfg.glyphWidth - 1 - (j + i)))) ∧
        t.latch.latchedAttribute = s.latch.latchedAttribute ∧ t.latch.underlineActive = s.latch.underlineActive) ∧
    (∃ t u, runTicks (s.cfg.glyphWidth - 1) s = .next t ∧ runTicks s.cfg.glyphWidth s = .next u ∧
      (∀ i, u.latch.shiftRegister.testBit i =
        (decide (i < s.cfg.glyphWidth) && t.fetch.glyphQ.testBit (s.cfg.glyphWidth - 1 - i))) ∧
      u.latch.latchedAttribute = t.fetch.attrQ)

/-- Pixel count per glyph (42_glyph_serializer.md R133): in a run of active ticks the serializer latches exactly in the ticks of the last
column, one tick in every GW, and shifts in the others. -/
def Obligations.ActiveTicksLatchOncePerGlyph : Prop :=
  ∀ (s : State) (m : Nat) (rest : List Ctl), s.cfg.valid = true → s.scan.columnInGlyph < s.cfg.glyphWidth →
    s.inputs = List.replicate m 0x5#4 ++ rest →
    ∀ x, x < m →
      ∃ t, runTicks x s = .next t ∧
        decodeSer2 (serializerSelector t (sampledCtl t)) =
          if (s.scan.columnInGlyph + x) % s.cfg.glyphWidth = s.cfg.glyphWidth - 1 then .latchC else .shift

/-- Closed form of the blink phase (43_blink_oscillator.md R142, R143), from any Blink State in range and under every input stream. -/
def Obligations.BlinkClosedForm : Prop :=
  ∀ (k : Nat) (s : State), s.cfg.valid = true → s.blink.blinkCounter < s.cfg.blinkHalfPeriod →
    ∃ t, runTicks k s = .next t ∧
      t.blink =
        { blinkCounter := (s.blink.blinkCounter + k) % s.cfg.blinkHalfPeriod
          blinkPhase := xor s.blink.blinkPhase
            (decide (((s.blink.blinkCounter + k) / s.cfg.blinkHalfPeriod) % 2 = 1)) }

/-- Blink determinism (43_blink_oscillator.md R143): whatever else differs, inputs included, two engines of one configuration with equal
Blink States keep them equal. -/
def Obligations.BlinkDependsOnItselfOnly : Prop :=
  ∀ (k : Nat) (s s' : State), s.cfg.valid = true → s'.cfg = s.cfg → s'.blink = s.blink →
    ∃ t t', runTicks k s = .next t ∧ runTicks k s' = .next t' ∧ t'.blink = t.blink

/-- Input-to-output dependence (45_tick_composition.md R164): the outputs of a tick do not depend on its inputs, and the next tick's
outputs and Render Latch depend on them through `horizontal_enable` only. -/
def Obligations.OutputsIgnoreCurrentInputs : Prop :=
  ∀ (s : State) (ws : List Ctl), s.cfg.valid = true →
    (∃ t t', step s = .next t ∧ step { s with inputs := ws } = .next t' ∧ t'.out = t.out) ∧
    ((sampledCtl { s with inputs := ws }).getLsbD 0 = (sampledCtl s).getLsbD 0 →
      ∃ t t' u u', step s = .next t ∧ step { s with inputs := ws } = .next t' ∧ t'.latch = t.latch ∧
        step t = .next u ∧ step t' = .next u' ∧ u'.out = u.out)

/-- A change of `cell_index` or `row_start` is not seen at the outputs of the tick it is first held in, nor at those of the next; it
reaches the latched attribute two ticks after that tick at the earliest, the shift register later still
(70_reset_and_hazards.md R194, 45_tick_composition.md R164). -/
def Obligations.CellIndexReachesOutputsLate : Prop :=
  ∀ (s : State) (a b k : Nat), s.cfg.valid = true → k ≤ 2 →
    ∃ t t', runTicks k s = .next t ∧
      runTicks k { s with scan := { s.scan with cellIndex := a, rowStart := b } } = .next t' ∧
      t'.out = t.out ∧ t'.latch.shiftRegister = t.latch.shiftRegister ∧
      t'.latch.underlineActive = t.latch.underlineActive ∧
      (k ≤ 1 → t'.latch.latchedAttribute = t.latch.latchedAttribute)

/-- Independence from the power-on values (70_reset_and_hazards.md R193): two engines that agree on the configuration, the Scan State, the
input stream and the draws (the tick's number, notes/assumptions/5.md) agree on the Scan State always, on `char_q` and `attr_q`
after one tick, on `glyph_q` after two, and on the Render Latch once a LATCH, in either pattern, has happened in a tick u >= 2,
whatever their other registers held. -/
def Obligations.PowerOnValuesAreForgotten : Prop :=
  ∀ (k : Nat) (s s' : State), s.cfg.valid = true → s'.cfg = s.cfg → s'.scan = s.scan → s'.inputs = s.inputs →
    s'.tick = s.tick →
    ∃ t t', runTicks k s = .next t ∧ runTicks k s' = .next t' ∧ t'.scan = t.scan ∧
      (1 ≤ k → t'.fetch.charQ = t.fetch.charQ ∧ t'.fetch.attrQ = t.fetch.attrQ) ∧
      (2 ≤ k → t'.fetch.glyphQ = t.fetch.glyphQ) ∧
      (∀ (u : Nat) (v : State), 2 ≤ u → u < k → runTicks u s = .next v →
        ((∃ c, decodeSer2 (serializerSelector v (sampledCtl v)) = .latchB c) ∨
          decodeSer2 (serializerSelector v (sampledCtl v)) = .latchC) → t'.latch = t.latch)

/-- The display theorem (70_reset_and_hazards.md R200, R201): in a conforming stream, from any state whose first frame begins with a
FRAME_RESET or whose Scan State is that of power-on, the outputs of the x-th active tick of every line y of every frame are
the pixel the picture gives, for the blink phase of that tick. -/
def Obligations.DisplayShowsThePicture : Prop :=
  ∀ (s : State) (before : List FrameStream) (f : FrameStream) (after : List FrameStream) (rest : List Ctl),
    s.cfg.valid = true → streamConforms s.cfg (before ++ f :: after) = true →
    (startsWithReset (before ++ f :: after) = true ∨ s.scan = Scan.zero) →
    s.inputs = streamWords s.cfg (before ++ f :: after) ++ rest →
    ∀ x y, x < s.cfg.activeWidth → y < s.cfg.activeHeight →
      ∃ t u, runTicks ((streamWords s.cfg before).length + f.lineStart s.cfg y + x) s = .next t ∧ step t = .next u ∧
        u.out = displayedPixel s.cfg x y t.blink.blinkPhase

/-- The stimulus `FRAME(vpre, fp, bp, vpost)` with vpre >= 3 and bp >= 3 is a conforming frame (30_encoding.md R93,
70_reset_and_hazards.md R200; the notation is the spec's decision D18). -/
def Obligations.StimulusFrameConforms : Prop :=
  ∀ (c : Config) (vpre fp bp vpost : Nat), 3 ≤ vpre → 3 ≤ bp →
    ∃ f : FrameStream, f.words c = stimulusFrame c vpre fp bp vpost ∧ f.conforms c = true ∧ f.resets ≠ []

/-- End-to-end count (70_reset_and_hazards.md R209): a conforming frame has exactly AW * AH active ticks. -/
def Obligations.FrameHasEveryActiveTick : Prop :=
  ∀ (c : Config) (f : FrameStream), f.conforms c = true →
    (f.words c).countP (fun w => decide (decodeCtl4 w = .pixelAdvance)) = c.activeWidth * c.activeHeight

/-- The first violation of 70_reset_and_hazards.md R204: with only two HOLD ticks after a line strobe, the first glyph span starts with
the glyph of the cell addressed before the strobe, at the new scanline, under the new cell's attribute and underline flag. -/
def Obligations.TwoHoldTicksShowTheOldGlyph : Prop :=
  ∀ (s : State) (w h1 h2 : Ctl) (rest : List Ctl), countersInRange s = true → s.inputs = w :: h1 :: h2 :: rest →
    isLineAdvance w = true → isHold h1 = true → isHold h2 = true → horizontalEnable h2 = false →
    s.scan.cellIndex < s.cfg.totalCells → s.scan.rowStart < s.cfg.totalCells →
    ∃ a u, runTicks 1 s = .next a ∧ runTicks 3 s = .next u ∧
      (∀ i, u.latch.shiftRegister.testBit i =
        (decide (i < s.cfg.glyphWidth) &&
          (tableRead s.cfg.glyph
            (tableRead s.cfg.charBuf s.scan.cellIndex * s.cfg.glyphHeight + a.scan.rowInGlyph)).testBit
              (s.cfg.glyphWidth - 1 - i))) ∧
      u.latch.latchedAttribute.toNat = tableRead s.cfg.attrBuf a.scan.cellIndex ∧
      u.latch.underlineActive = decide (a.scan.rowInGlyph = s.cfg.glyphHeight - 1)

/-! ## Addresses, tables, formats -/

/-- The Glyph Store address is in range and fits W_GADDR bits when the row counter is in its range, and is the concatenation of code and
row when GH is a power of two (20_memory.md R56, 41_fetch_pipeline.md R124). -/
def Obligations.GlyphAddressInRange : Prop :=
  ∀ s : State, s.scan.rowInGlyph < s.cfg.glyphHeight →
    glyphAddress s < 256 * s.cfg.glyphHeight ∧ glyphAddress s < 2 ^ s.cfg.wGaddr ∧
    ∀ k, s.cfg.glyphHeight = 2 ^ k → glyphAddress s = (s.fetch.charQ.toNat <<< k) ||| s.scan.rowInGlyph

/-- The table made from a caller's words is in canonical form and reads as those words (00_scope.md R6, 20_memory.md R58). The sparse
form is the model's choice (notes/assumptions/20.md). -/
def Obligations.TableReadsAsSupplied : Prop :=
  ∀ (width : Nat) (ws : List Nat), (∀ w ∈ ws, w < 2 ^ width) →
    (Table.ofWords width ws).holdsWords ws.length width = true ∧
    ∀ (a : Nat) (h : a < ws.length), tableRead (Table.ofWords width ws) a = ws[a]

/-- Equal memories are equal data: two tables in canonical form with the same size that read alike at every address are the same table
(the model's choice of form, notes/assumptions/20.md). -/
def Obligations.CanonicalTablesAreDeterminedByReads : Prop :=
  ∀ t u : Table, t.wf = true → u.wf = true → t.depth = u.depth → t.width = u.width →
    (∀ a, a < t.depth → tableRead t a = tableRead u a) → t = u

/-- Complete behaviour of the foreground predicate (44_pixel_compositor.md R152): `fg` = 1 in exactly 15 of the 32 combinations of its
five inputs. -/
def Obligations.ForegroundTruthTable : Prop :=
  (∀ (pixel row : Bool) (a : Attr5) (phase : Bool),
    foregroundActive pixel row a phase = true ↔
      (pixel = true ∨ (row = true ∧ a.getLsbD 3 = true)) ∧ (a.getLsbD 4 = false ∨ phase = true)) ∧
  ((List.range 32).countP fun n =>
    foregroundActive (n.testBit 0) (n.testBit 1) (BitVec.ofNat 5 (8 * (n / 4 % 4))) (n.testBit 4)) = 15
end

