-- ==== Sys2Proof/Laws/State.lean ====
section
/-!
SUPPORT. What each write of Machine/Ops.lean does to each field of State: one lemma per field per write, and the fields of the edge
and of the power-on state.
-/

namespace Sys2Proof.Machine

variable (s : State)


/-! ## writeScan -/

@[simp] theorem writeScan_cfg (v : Scan) : (writeScan s v).cfg = s.cfg := rfl
@[simp] theorem writeScan_scan (v : Scan) : (writeScan s v).scan = v := rfl
@[simp] theorem writeScan_fetch (v : Scan) : (writeScan s v).fetch = s.fetch := rfl
@[simp] theorem writeScan_latch (v : Scan) : (writeScan s v).latch = s.latch := rfl
@[simp] theorem writeScan_blink (v : Scan) : (writeScan s v).blink = s.blink := rfl
@[simp] theorem writeScan_inputs (v : Scan) : (writeScan s v).inputs = s.inputs := rfl
@[simp] theorem writeScan_out (v : Scan) : (writeScan s v).out = s.out := rfl
@[simp] theorem writeScan_tick (v : Scan) : (writeScan s v).tick = s.tick := rfl

/-! ## writeLatch -/

@[simp] theorem writeLatch_cfg (v : RenderLatch) : (writeLatch s v).cfg = s.cfg := rfl
@[simp] theorem writeLatch_scan (v : RenderLatch) : (writeLatch s v).scan = s.scan := rfl
@[simp] theorem writeLatch_fetch (v : RenderLatch) : (writeLatch s v).fetch = s.fetch := rfl
@[simp] theorem writeLatch_latch (v : RenderLatch) : (writeLatch s v).latch = v := rfl
@[simp] theorem writeLatch_blink (v : RenderLatch) : (writeLatch s v).blink = s.blink := rfl
@[simp] theorem writeLatch_inputs (v : RenderLatch) : (writeLatch s v).inputs = s.inputs := rfl
@[simp] theorem writeLatch_out (v : RenderLatch) : (writeLatch s v).out = s.out := rfl
@[simp] theorem writeLatch_tick (v : RenderLatch) : (writeLatch s v).tick = s.tick := rfl

/-! ## writeBlink -/

@[simp] theorem writeBlink_cfg (v : Blink) : (writeBlink s v).cfg = s.cfg := rfl
@[simp] theorem writeBlink_scan (v : Blink) : (writeBlink s v).scan = s.scan := rfl
@[simp] theorem writeBlink_fetch (v : Blink) : (writeBlink s v).fetch = s.fetch := rfl
@[simp] theorem writeBlink_latch (v : Blink) : (writeBlink s v).latch = s.latch := rfl
@[simp] theorem writeBlink_blink (v : Blink) : (writeBlink s v).blink = v := rfl
@[simp] theorem writeBlink_inputs (v : Blink) : (writeBlink s v).inputs = s.inputs := rfl
@[simp] theorem writeBlink_out (v : Blink) : (writeBlink s v).out = s.out := rfl
@[simp] theorem writeBlink_tick (v : Blink) : (writeBlink s v).tick = s.tick := rfl

/-! ## driveOutputs -/

@[simp] theorem driveOutputs_cfg (v : Rgb) : (driveOutputs s v).cfg = s.cfg := rfl
@[simp] theorem driveOutputs_scan (v : Rgb) : (driveOutputs s v).scan = s.scan := rfl
@[simp] theorem driveOutputs_fetch (v : Rgb) : (driveOutputs s v).fetch = s.fetch := rfl
@[simp] theorem driveOutputs_latch (v : Rgb) : (driveOutputs s v).latch = s.latch := rfl
@[simp] theorem driveOutputs_blink (v : Rgb) : (driveOutputs s v).blink = s.blink := rfl
@[simp] theorem driveOutputs_inputs (v : Rgb) : (driveOutputs s v).inputs = s.inputs := rfl
@[simp] theorem driveOutputs_out (v : Rgb) : (driveOutputs s v).out = v := rfl
@[simp] theorem driveOutputs_tick (v : Rgb) : (driveOutputs s v).tick = s.tick := rfl

/-! ## writeCell -/

@[simp] theorem writeCell_cfg (k : Code8) (a : Attr5) : (writeCell s k a).cfg = s.cfg := rfl
@[simp] theorem writeCell_scan (k : Code8) (a : Attr5) : (writeCell s k a).scan = s.scan := rfl
@[simp] theorem writeCell_latch (k : Code8) (a : Attr5) : (writeCell s k a).latch = s.latch := rfl
@[simp] theorem writeCell_blink (k : Code8) (a : Attr5) : (writeCell s k a).blink = s.blink := rfl
@[simp] theorem writeCell_inputs (k : Code8) (a : Attr5) : (writeCell s k a).inputs = s.inputs := rfl
@[simp] theorem writeCell_out (k : Code8) (a : Attr5) : (writeCell s k a).out = s.out := rfl
@[simp] theorem writeCell_tick (k : Code8) (a : Attr5) : (writeCell s k a).tick = s.tick := rfl
@[simp] theorem writeCell_charQ (k : Code8) (a : Attr5) : (writeCell s k a).fetch.charQ = k := rfl
@[simp] theorem writeCell_attrQ (k : Code8) (a : Attr5) : (writeCell s k a).fetch.attrQ = a := rfl
@[simp] theorem writeCell_glyphQ (k : Code8) (a : Attr5) : (writeCell s k a).fetch.glyphQ = s.fetch.glyphQ := rfl

/-! ## writeGlyph -/

@[simp] theorem writeGlyph_cfg (g : Nat) : (writeGlyph s g).cfg = s.cfg := rfl
@[simp] theorem writeGlyph_scan (g : Nat) : (writeGlyph s g).scan = s.scan := rfl
@[simp] theorem writeGlyph_latch (g : Nat) : (writeGlyph s g).latch = s.latch := rfl
@[simp] theorem writeGlyph_blink (g : Nat) : (writeGlyph s g).blink = s.blink := rfl
@[simp] theorem writeGlyph_inputs (g : Nat) : (writeGlyph s g).inputs = s.inputs := rfl
@[simp] theorem writeGlyph_out (g : Nat) : (writeGlyph s g).out = s.out := rfl
@[simp] theorem writeGlyph_tick (g : Nat) : (writeGlyph s g).tick = s.tick := rfl
@[simp] theorem writeGlyph_charQ (g : Nat) : (writeGlyph s g).fetch.charQ = s.fetch.charQ := rfl
@[simp] theorem writeGlyph_attrQ (g : Nat) : (writeGlyph s g).fetch.attrQ = s.fetch.attrQ := rfl
@[simp] theorem writeGlyph_glyphQ (g : Nat) : (writeGlyph s g).fetch.glyphQ = g := rfl

/-! ## commitEdge -/

@[simp] theorem commitEdge_cfg (tr ce gl se os co : State) : (commitEdge s tr ce gl se os co).cfg = s.cfg := rfl
@[simp] theorem commitEdge_scan (tr ce gl se os co : State) : (commitEdge s tr ce gl se os co).scan = tr.scan := rfl
@[simp] theorem commitEdge_charQ (tr ce gl se os co : State) : (commitEdge s tr ce gl se os co).fetch.charQ = ce.fetch.charQ := rfl
@[simp] theorem commitEdge_attrQ (tr ce gl se os co : State) : (commitEdge s tr ce gl se os co).fetch.attrQ = ce.fetch.attrQ := rfl
@[simp] theorem commitEdge_glyphQ (tr ce gl se os co : State) : (commitEdge s tr ce gl se os co).fetch.glyphQ = gl.fetch.glyphQ := rfl
@[simp] theorem commitEdge_latch (tr ce gl se os co : State) : (commitEdge s tr ce gl se os co).latch = se.latch := rfl
@[simp] theorem commitEdge_blink (tr ce gl se os co : State) : (commitEdge s tr ce gl se os co).blink = os.blink := rfl
@[simp] theorem commitEdge_inputs (tr ce gl se os co : State) : (commitEdge s tr ce gl se os co).inputs = s.inputs.tail := rfl
@[simp] theorem commitEdge_out (tr ce gl se os co : State) : (commitEdge s tr ce gl se os co).out = co.out := rfl
@[simp] theorem commitEdge_tick (tr ce gl se os co : State) : (commitEdge s tr ce gl se os co).tick = s.tick + 1 := rfl

/-! ## powerOn -/

@[simp] theorem powerOn_cfg (c : Config) : (State.powerOn c).cfg = c := rfl
@[simp] theorem powerOn_scan (c : Config) : (State.powerOn c).scan = Scan.zero := rfl
@[simp] theorem powerOn_fetch (c : Config) : (State.powerOn c).fetch = { charQ := 0, attrQ := 0, glyphQ := 0 } := rfl
@[simp] theorem powerOn_latch (c : Config) : (State.powerOn c).latch = { shiftRegister := 0, latchedAttribute := 0, underlineActive := false } := rfl
@[simp] theorem powerOn_blink (c : Config) : (State.powerOn c).blink = { blinkCounter := 0, blinkPhase := false } := rfl
@[simp] theorem powerOn_inputs (c : Config) : (State.powerOn c).inputs = [] := rfl
@[simp] theorem powerOn_out (c : Config) : (State.powerOn c).out = Rgb.black := rfl
@[simp] theorem powerOn_tick (c : Config) : (State.powerOn c).tick = 0 := rfl

end Sys2Proof.Machine
end

