-- ==== Sys2Proof/Laws/Ops.lean ====
section
/-!
SUPPORT. What each shared operation can do, said once: outcomes, table reads, the words of the serializer, the widths of the
counters, the checks of a configuration, and what every operation answers.
-/

namespace Sys2Proof

/-! ## Widths (spec/00_scope.md R7) -/

theorem le_two_pow_ceilLog2 (n : Nat) : n ≤ 2 ^ ceilLog2 n := by
  unfold ceilLog2
  split
  · omega
  · have h : n - 1 < 2 ^ ((n - 1).log2 + 1) := Nat.lt_log2_self
    omega

theorem Config.glyphWidth_le_two_pow_wCol (c : Config) : c.glyphWidth ≤ 2 ^ c.wCol :=
  (le_two_pow_ceilLog2 _).trans (Nat.pow_le_pow_right (by decide) (le_max_right _ _))

theorem Config.glyphHeight_le_two_pow_wRow (c : Config) : c.glyphHeight ≤ 2 ^ c.wRow :=
  (le_two_pow_ceilLog2 _).trans (Nat.pow_le_pow_right (by decide) (le_max_right _ _))

theorem Config.blinkHalfPeriod_le_two_pow_wBlink (c : Config) : c.blinkHalfPeriod ≤ 2 ^ c.wBlink :=
  (le_two_pow_ceilLog2 _).trans (Nat.pow_le_pow_right (by decide) (le_max_right _ _))

/-- W_CELL bits hold N, which `cell_index` reaches (spec/10_state.md R34). -/
theorem Config.totalCells_lt_two_pow_wCell (c : Config) : c.totalCells < 2 ^ c.wCell := Nat.lt_log2_self

/-! ## The checks of a configuration (spec/00_scope.md R8) -/

theorem Config.valid_iff (c : Config) :
    c.valid = true ↔
      c.activeWidth % c.glyphWidth = 0 ∧ c.activeHeight % c.glyphHeight = 0 ∧
      c.glyph.holdsWords c.glyphDepth c.glyphWidth = true ∧ c.charBuf.holdsWords c.totalCells 8 = true ∧
      c.attrBuf.holdsWords c.totalCells 5 = true ∧ 4 ≤ c.glyphWidth ∧
      (1 ≤ c.glyphHeight ∧ c.glyphWidth ≤ c.activeWidth ∧ c.glyphHeight ≤ c.activeHeight) ∧ 1 ≤ c.blinkHalfPeriod := by
  simp [Config.valid, allChecks, ConfigCheck.passes, and_assoc]

theorem Table.holdsWords_iff (t : Table) (d w : Nat) :
    t.holdsWords d w = true ↔ t.depth = d ∧ t.width = w ∧ t.wf = true := by
  simp [Table.holdsWords, and_assoc]

theorem Config.valid_memoryWf {c : Config} (h : c.valid = true) : c.memoryWf = true := by
  obtain ⟨-, -, hg, hc, ha, -⟩ := (Config.valid_iff c).1 h
  simp [Config.memoryWf, ((Table.holdsWords_iff _ _ _).1 hg).2.2, ((Table.holdsWords_iff _ _ _).1 hc).2.2,
    ((Table.holdsWords_iff _ _ _).1 ha).2.2]

end Sys2Proof

namespace Sys2Proof.Machine

/-! ## Outcomes -/

@[simp] theorem andThen_next (s : State) (k : State → Host.Outcome State Fault Refusal) :
    andThen (.next s) k = k s := rfl

@[simp] theorem andThen_refused (r : Refusal) (k : State → Host.Outcome State Fault Refusal) :
    andThen (.refused r) k = .refused r := rfl

theorem andThen_eq_next {o : Host.Outcome State Fault Refusal} {k : State → Host.Outcome State Fault Refusal} {t : State} :
    andThen o k = .next t ↔ ∃ s, o = .next s ∧ k s = .next t := by
  cases o <;> simp [andThen]

/-! ## Increments -/

theorem increment_lt (w v : Nat) : increment w v < 2 ^ w := Nat.mod_lt _ (Nat.two_pow_pos w)

theorem increment_of_lt {w v : Nat} (h : v + 1 < 2 ^ w) : increment w v = v + 1 := Nat.mod_eq_of_lt h

/-! ## Table reads (spec/20_memory.md R50, R59) -/

/-- A word of a table in canonical form fits the table's width. -/
theorem lookupWord_lt {cells : List (Nat × Nat)} {w : Nat} (h : ∀ e ∈ cells, e.2 < 2 ^ w) (a : Nat) :
    lookupWord a cells < 2 ^ w := by
  induction cells with
  | nil => exact Nat.two_pow_pos w
  | cons e rest ih =>
    obtain ⟨b, v⟩ := e
    rw [lookupWord]
    split
    · exact h (b, v) (by simp)
    · exact ih fun e he => h e (by simp [he])

theorem tableRead_lt {t : Table} (h : t.wf = true) (a : Nat) : tableRead t a < 2 ^ t.width := by
  refine lookupWord_lt (fun e he => ?_) a
  simp only [Table.wf, Bool.and_eq_true, List.all_eq_true, decide_eq_true_eq] at h
  exact (h.2 e he).2

theorem memRead_of_lt {s : State} {sp : Space} {a : Nat} (h : a < sp.depth s.cfg) :
    memRead s sp a = tableRead (sp.table s.cfg) a := if_pos h

theorem memRead_of_ge {s : State} {sp : Space} {a : Nat} (h : sp.depth s.cfg ≤ a) :
    memRead s sp a = drawWord s.cfg s.tick sp := if_neg (Nat.not_lt.2 h)

/-- A read depends on the configuration and the tick's number only. -/
theorem memRead_congr {s t : State} (hc : t.cfg = s.cfg) (ht : t.tick = s.tick) (sp : Space) (a : Nat) :
    memRead t sp a = memRead s sp a := by
  simp [memRead, hc, ht]

theorem drawWord_lt (c : Config) (tick : Nat) (sp : Space) : drawWord c tick sp < 2 ^ sp.width c := by
  cases sp <;> exact BitVec.isLt _

/-- A read of a valid configuration's table gives a word of the table's width, in range or not. -/
theorem memRead_lt {s : State} (h : s.cfg.valid = true) (sp : Space) (a : Nat) :
    memRead s sp a < 2 ^ sp.width s.cfg := by
  obtain ⟨-, -, hg, hc, ha, -⟩ := (Config.valid_iff s.cfg).1 h
  unfold memRead
  split
  · cases sp with
    | char =>
      obtain ⟨-, hw, hf⟩ := (Table.holdsWords_iff _ _ _).1 hc
      simpa [Space.width, Space.table, hw] using tableRead_lt hf a
    | attr =>
      obtain ⟨-, hw, hf⟩ := (Table.holdsWords_iff _ _ _).1 ha
      simpa [Space.width, Space.table, hw] using tableRead_lt hf a
    | glyph =>
      obtain ⟨-, hw, hf⟩ := (Table.holdsWords_iff _ _ _).1 hg
      simpa [Space.width, Space.table, hw] using tableRead_lt hf a
  · exact drawWord_lt _ _ _

/-! ## The words of the serializer (spec/00_scope.md R13) -/

theorem revBits_lt (w v : Nat) : revBits w v < 2 ^ w := by
  induction w generalizing v with
  | zero => simp [revBits]
  | succ w ih =>
    have h := ih (v / 2)
    have hb : v % 2 ≤ 1 := by omega
    have : (v % 2) * 2 ^ w ≤ 1 * 2 ^ w := Nat.mul_le_mul_right _ hb
    rw [revBits, Nat.pow_succ]
    omega

/-- Bit i of the reversed word is bit W-1-i of the word. -/
theorem testBit_revBits (w v i : Nat) : (revBits w v).testBit i = (decide (i < w) && v.testBit (w - 1 - i)) := by
  induction w generalizing v i with
  | zero => simp [revBits]
  | succ w ih =>
    rw [revBits, Nat.mul_comm, Nat.testBit_two_pow_mul_add _ (revBits_lt w _)]
    by_cases h : i < w
    · have e : w + 1 - 1 - i = (w - 1 - i) + 1 := by omega
      rw [if_pos h, ih, e, Nat.testBit_succ]
      simp [h, Nat.lt_succ_of_lt h]
    · rw [if_neg h]
      by_cases hi : i = w
      · subst hi
        simp [Nat.testBit_zero]
      · have h1 : ¬ i < w + 1 := by omega
        obtain ⟨d, hd⟩ : ∃ d, i - w = d + 1 := ⟨i - w - 1, by omega⟩
        simp only [h1, decide_false, Bool.false_and, hd, Nat.testBit_succ]
        have : v % 2 / 2 = 0 := by omega
        simp [this]

theorem shiftTowardZero_lt (w v : Nat) : shiftTowardZero w v < 2 ^ w :=
  (Nat.div_le_self _ _).trans_lt (Nat.mod_lt _ (Nat.two_pow_pos w))

/-- Bit i of the shifted word is bit i+1 of the word, and bit W-1 is 0. -/
theorem testBit_shiftTowardZero (w v i : Nat) :
    (shiftTowardZero w v).testBit i = (decide (i + 1 < w) && v.testBit (i + 1)) := by
  rw [shiftTowardZero, ← Nat.testBit_succ, Nat.testBit_mod_two_pow]

/-! ## What every operation answers -/

/-- Every operation completes in every state, and leaves the configuration, the input stream and the tick's number alone. -/
theorem exec_completes (i : Instr) (s : State) :
    ∃ t, exec i s = .next t ∧ t.cfg = s.cfg ∧ t.inputs = s.inputs ∧ t.tick = s.tick := by
  cases i <;> exact ⟨_, rfl, rfl, rfl, rfl⟩

theorem exec_frameReset (e h n : Bool) (s : State) : exec (.frameReset e h n) s = .next (writeScan s Scan.zero) := rfl
theorem exec_lineAdvance (n : Bool) (s : State) : exec (.lineAdvance n) s = .next (writeScan s (lineAdvanceScan s)) := rfl
theorem exec_pixelAdvance (s : State) : exec .pixelAdvance s = .next (writeScan s (pixelAdvanceScan s)) := rfl
theorem exec_fetchGlyph (s : State) :
    exec .fetchGlyph s = .next (writeGlyph s (memRead s .glyph (glyphAddress s))) := rfl
theorem exec_compose (s : State) : exec .compose s = .next (driveOutputs s (composedOutputs s)) := rfl

/-! ## The edge -/

/-- The Scan State after a tick with control word w, by first match (spec/40_scan_tracker.md R104). -/
def scanAfter (s : State) (w : Ctl) : Scan :=
  if w.getLsbD 3 then Scan.zero
  else if w.getLsbD 1 && w.getLsbD 2 then lineAdvanceScan s
  else if w.getLsbD 2 && w.getLsbD 0 then pixelAdvanceScan s
  else s.scan

/-- The Render Latch after a tick with control word w (spec/30_encoding.md R82). -/
def latchAfter (s : State) (w : Ctl) : RenderLatch :=
  if horizontalEnable w && !colLast s then
    { s.latch with shiftRegister := shiftTowardZero s.cfg.glyphWidth s.latch.shiftRegister }
  else latchedRow s

/-- The Blink State after a tick (spec/30_encoding.md R83). -/
def blinkAfter (s : State) : Blink :=
  if blinkLast s then { blinkCounter := 0, blinkPhase := !s.blink.blinkPhase }
  else { s.blink with blinkCounter := increment s.cfg.wBlink s.blink.blinkCounter }

/-- The fetch pipeline registers after a tick (spec/20_memory.md R57). -/
def fetchAfter (s : State) : Fetch :=
  { charQ := BitVec.ofNat 8 (memRead s .char (cellAddress s))
    attrQ := BitVec.ofNat 5 (memRead s .attr (cellAddress s))
    glyphQ := memRead s .glyph (glyphAddress s) }

/-- The state after a tick with control word w, register group by register group. -/
def afterTick (s : State) (w : Ctl) : State :=
  { cfg := s.cfg, scan := scanAfter s w, fetch := fetchAfter s, latch := latchAfter s w, blink := blinkAfter s,
    inputs := s.inputs.tail, out := composedOutputs s, tick := s.tick + 1 }

theorem exec_decodeCtl4 (s : State) (w : Ctl) : exec (decodeCtl4 w) s = .next (writeScan s (scanAfter s w)) := by
  unfold decodeCtl4 scanAfter
  dsimp only
  split
  · rfl
  · split
    · rfl
    · split
      · rfl
      · split <;> rfl

theorem exec_decodeSer2 (s : State) (w : Ctl) :
    exec (decodeSer2 (serializerSelector s w)) s = .next (writeLatch s (latchAfter s w)) := by
  unfold serializerSelector latchAfter
  cases horizontalEnable w <;> cases colLast s <;> rfl

theorem exec_decodeBlk1 (s : State) :
    exec (decodeBlk1 (oscillatorSelector s)) s = .next (writeBlink s (blinkAfter s)) := by
  unfold oscillatorSelector blinkAfter
  cases blinkLast s <;> rfl

/-- The tick's operations together give `afterTick`. -/
theorem tickOperations_eq (s : State) (w : Ctl) : tickOperations s w = .next (afterTick s w) := by
  rw [tickOperations, exec_decodeCtl4, exec_decodeSer2, exec_decodeBlk1]
  rfl

theorem runTick_of_valid {s : State} (h : s.cfg.valid = true) : runTick s = .next (afterTick s (sampledCtl s)) := by
  rw [runTick, if_pos h, tickOperations_eq]

end Sys2Proof.Machine
end

