-- ==== Sys2Proof/Laws/Memory.lean ====
section
/-!
SUPPORT. The tables keep their canonical form: no operation and no tick writes them (spec/20_memory.md R63).
-/

namespace Sys2Proof.Machine

theorem step_of_valid {s : State} (h : s.cfg.valid = true) : step s = .next (afterTick s (sampledCtl s)) :=
  runTick_of_valid h

/-- What a step can do, said once: it is the tick of a valid configuration. -/
theorem step_eq_next {s t : State} (h : step s = .next t) :
    s.cfg.valid = true ∧ t = afterTick s (sampledCtl s) := by
  by_cases hv : s.cfg.valid = true
  · rw [step_of_valid hv] at h
    exact ⟨hv, (Host.Outcome.next.inj h).symm⟩
  · simp [step, runTick, hv] at h

theorem exec_keeps_memoryWf {i : Instr} {s t : State} (h : exec i s = .next t) (hs : s.cfg.memoryWf = true) :
    t.cfg.memoryWf = true := by
  obtain ⟨u, hu, hc, -⟩ := exec_completes i s
  rw [h] at hu
  cases hu
  rw [hc, hs]

theorem step_keeps_memoryWf {s t : State} (h : step s = .next t) (hs : s.cfg.memoryWf = true) :
    t.cfg.memoryWf = true := by
  rw [(step_eq_next h).2]
  exact hs

theorem reset_memoryWf : State.reset.cfg.memoryWf = true := by decide

end Sys2Proof.Machine
end

