-- ==== Sys2Proof/Laws/PerInstr.lean ====
section
/-!
SUPPORT. Facts about every operation as syntax, one lemma per constructor.
-/

/-- An operation's selector word has no bit above its format's and matches its row's mask and match (spec/30_encoding.md R94). -/
def Sys2Proof.Laws.SelectorWordMatchesRow.Statement (i : Sys2Proof.Instr) : Prop :=
  Sys2Proof.encode i < 2 ^ i.format.bits ∧
    Sys2Proof.encode i &&& (Sys2Proof.maskMatch i).1 = (Sys2Proof.maskMatch i).2

namespace Sys2Proof.Laws.SelectorWordMatchesRow

theorem frameReset (e h n : Bool) : Statement (.frameReset e h n) := by
  cases e <;> cases h <;> cases n <;> exact ⟨by decide, by decide⟩

theorem lineAdvance (n : Bool) : Statement (.lineAdvance n) := by cases n <;> exact ⟨by decide, by decide⟩

theorem pixelAdvance : Statement .pixelAdvance := ⟨by decide, by decide⟩

theorem holdV (h n : Bool) : Statement (.holdV h n) := by cases h <;> cases n <;> exact ⟨by decide, by decide⟩

theorem holdH : Statement .holdH := ⟨by decide, by decide⟩

theorem latchB (c : Bool) : Statement (.latchB c) := by cases c <;> exact ⟨by decide, by decide⟩

theorem latchC : Statement .latchC := ⟨by decide, by decide⟩

theorem shift : Statement .shift := ⟨by decide, by decide⟩

theorem blinkCount : Statement .blinkCount := ⟨by decide, by decide⟩

theorem blinkToggle : Statement .blinkToggle := ⟨by decide, by decide⟩

theorem fetchCell : Statement .fetchCell := ⟨by decide, by decide⟩

theorem fetchGlyph : Statement .fetchGlyph := ⟨by decide, by decide⟩

theorem compose : Statement .compose := ⟨by decide, by decide⟩

end Sys2Proof.Laws.SelectorWordMatchesRow
end

