-- ==== Sys2Proof/Laws/Runs.lean ====
section
/-!
SUPPORT. Runs of several ticks: one tick after another, and two runs in a row.
-/

namespace Sys2Proof.Machine

@[simp] theorem runTicks_zero (s : State) : runTicks 0 s = .next s := rfl

theorem runTicks_succ_of_valid {s : State} (h : s.cfg.valid = true) (k : Nat) :
    runTicks (k + 1) s = runTicks k (afterTick s (sampledCtl s)) := by
  rw [runTicks, step_of_valid h, andThen_next]

theorem runTicks_add (j k : Nat) (s : State) : runTicks (j + k) s = andThen (runTicks j s) (runTicks k) := by
  induction j generalizing s with
  | zero => simp
  | succ j ih =>
    rw [Nat.succ_add, runTicks, runTicks]
    cases step s with
    | next t => simp [ih]
    | fault r => rfl
    | refused r => rfl

/-- The control word of a tick whose word is queued. -/
theorem sampledCtl_cons {s : State} {w : Ctl} {ws : List Ctl} (h : s.inputs = w :: ws) : sampledCtl s = w := by
  simp [sampledCtl, h]

end Sys2Proof.Machine
end

