-- ==== Sys2Proof/Tests/Slice0.lean ====
section
/-!
SUPPORT. The model's own tests: ill-formed terms the checks refuse, words written out from spec/30_encoding.md, vectors of
spec/95_test_vectors.md (their numbers stand in the comments), and a witness for the hypotheses of every statement that has some.
-/

namespace Sys2Proof.Tests

open Sys2Proof.Machine

/-! ## Well-formedness: each check of 00_scope.md R8 refuses an ill-formed configuration -/

theorem test_tiny_valid : Config.tiny.valid = true := by decide

theorem test_cfg1_refuses : ConfigCheck.cfg1.passes { Config.tiny with activeWidth := 9 } = false := by decide
theorem test_cfg2_refuses : ConfigCheck.cfg2.passes { Config.tiny with activeHeight := 5 } = false := by decide
theorem test_cfg3_refuses_size : ConfigCheck.cfg3.passes { Config.tiny with glyphHeight := 4 } = false := by decide
theorem test_cfg3_refuses_width : ConfigCheck.cfg3.passes { Config.tiny with glyphWidth := 8 } = false := by decide
theorem test_cfg4_refuses : ConfigCheck.cfg4.passes { Config.tiny with charBuf := Table.ofWords 8 [1, 2, 3] } = false := by
  decide
theorem test_cfg5_refuses : ConfigCheck.cfg5.passes { Config.tiny with attrBuf := Table.ofWords 5 [1, 2, 3, 32] } = false := by
  decide
theorem test_cfg6_refuses : ConfigCheck.cfg6.passes { Config.tiny with glyphWidth := 3 } = false := by decide
theorem test_cfg7_refuses : ConfigCheck.cfg7.passes { Config.tiny with glyphHeight := 0 } = false := by decide
theorem test_cfg8_refuses : ConfigCheck.cfg8.passes { Config.tiny with blinkHalfPeriod := 0 } = false := by decide
theorem test_failed_checks_are_all_listed :
    failedChecks { Config.tiny with activeWidth := 9, blinkHalfPeriod := 0 } = [.cfg1, .cfg8] := by decide

/-- A table whose addresses do not rise, one that lists a 0, one that lists an address beyond its depth. -/
theorem test_table_form_refuses :
    Table.wf { depth := 4, width := 8, cells := [(1, 5), (1, 6)] } = false ∧
    Table.wf { depth := 4, width := 8, cells := [(1, 0)] } = false ∧
    Table.wf { depth := 4, width := 8, cells := [(4, 1)] } = false := by decide

/-- A number with a bit above the format's selector word. -/
theorem test_selector_too_wide :
    decode .ctl4 16 = .error (.tooWide .ctl4 16) ∧ decode .ser2 4 = .error (.tooWide .ser2 4) ∧
    decode .blk1 2 = .error (.tooWide .blk1 2) ∧ decode .uncond 1 = .error (.tooWide .uncond 1) := ⟨rfl, rfl, rfl, rfl⟩

/-! ## Decoding: words written bit by bit from the tables of 30_encoding.md R81, R82, R83, R86 -/

/-- All 16 rows of R81's table, in its order. -/
theorem test_decode_ctl4 :
    [0b0000#4, 0b0001, 0b0010, 0b0011, 0b0100, 0b0101, 0b0110, 0b0111, 0b1000, 0b1001, 0b1010, 0b1011, 0b1100, 0b1101,
      0b1110, 0b1111].map decodeCtl4 =
    [.holdV false false, .holdV false true, .holdV true false, .holdV true true, .holdH, .pixelAdvance,
      .lineAdvance false, .lineAdvance true, .frameReset false false false, .frameReset false false true,
      .frameReset false true false, .frameReset false true true, .frameReset true false false,
      .frameReset true false true, .frameReset true true false, .frameReset true true true] := by decide

/-- All four rows of R82's table. -/
theorem test_decode_ser2 :
    [0b00#2, 0b01, 0b11, 0b10].map decodeSer2 = [.latchB false, .latchB true, .latchC, .shift] := by decide

/-- Both selectors of R83. -/
theorem test_decode_blk1 : [0b0#1, 0b1].map decodeBlk1 = [.blinkCount, .blinkToggle] := by decide

/-- R86. -/
theorem test_decode_uncond : decode .uncond 0 = .ok [.fetchCell, .fetchGlyph, .compose] := rfl

theorem test_table_words :
    decodeTableWord 8 0x8 = some (.frameReset false false false) ∧ decodeTableWord 8 0x6 = some (.lineAdvance false) ∧
    decodeTableWord 8 0x5 = some .pixelAdvance ∧ decodeTableWord 8 0x0 = some (.holdV false false) ∧
    decodeTableWord 8 0x4 = some .holdH ∧ decodeTableWord 2 0x1 = some (.latchB true) ∧
    decodeTableWord 2 0x3 = some .latchC ∧ decodeTableWord 2 0x2 = some .shift ∧
    decodeTableWord 1 0x0 = some .blinkCount ∧ decodeTableWord 1 0x1 = some .blinkToggle ∧
    decodeTableWord 0 0x0 = none ∧ decodeTableWord 8 0x10 = none := by decide

/-! ## Helpers -/

/-- The state of an outcome that is a next state. -/
def nextOf : Host.Outcome State Fault Refusal → Option State
  | .next s => some s
  | .fault _ => none
  | .refused _ => none

/-- The reference dimensions of R12 with blank tables. -/
def blankReference : Config :=
  Config.reference 5 { depth := 2400, width := 8, cells := [(5, 0x41)] } { depth := 2400, width := 5, cells := [(5, 7)] }
    { depth := 4096, width := 8, cells := [(1043, 0b11010000)] }

/-- A state of the reference configuration with the given Scan State. -/
def refAt (ci rs col row : Nat) : State := { State.powerOn blankReference with scan := ⟨ci, rs, col, row⟩ }

/-- A state of TINY with the given Scan State and control words. -/
def tinyAt (ci rs col row : Nat) (ws : List Ctl) : State :=
  { State.reset with scan := ⟨ci, rs, col, row⟩, inputs := ws }

theorem test_reference_valid : blankReference.valid = true := by decide

/-- Derived parameters of the reference configuration (R12). -/
theorem test_reference_params :
    blankReference.cellsPerRow = 80 ∧ blankReference.totalCells = 2400 ∧ blankReference.glyphDepth = 4096 ∧
    blankReference.wCell = 12 ∧ blankReference.wCol = 3 ∧ blankReference.wRow = 4 ∧ blankReference.wGaddr = 12 := by decide

/-! ## Vectors of 95_test_vectors.md, one step each -/

/-- T2. -/
theorem test_frameReset : (nextOf (exec (.frameReset true true true) (refAt 123 80 5 9))).map (·.scan) = some ⟨0, 0, 0, 0⟩ := by
  decide

/-- T7. -/
theorem test_lineAdvance_rolls_back :
    (nextOf (exec (.lineAdvance true) (refAt 37 0 5 14))).map (·.scan) = some ⟨0, 0, 0, 15⟩ := by decide

/-- T8. -/
theorem test_lineAdvance_commits :
    (nextOf (exec (.lineAdvance false) (refAt 2400 2320 0 15))).map (·.scan) = some ⟨2400, 2400, 0, 0⟩ := by decide

/-- T12. -/
theorem test_pixelAdvance_last_column :
    (nextOf (exec .pixelAdvance (refAt 1 0 7 0))).map (·.scan) = some ⟨1, 0, 0, 0⟩ := by decide

/-- T14. -/
theorem test_pixelAdvance_wraps :
    (nextOf (exec .pixelAdvance (refAt 4095 0 0 0))).map (·.scan) = some ⟨0, 0, 1, 0⟩ := by decide

/-- T19. -/
theorem test_holdV : (nextOf (exec (.holdV true true) (refAt 17 0 3 5))).map (·.scan) = some ⟨17, 0, 3, 5⟩ := by decide

/-- T15. -/
theorem test_holdH : (nextOf (exec .holdH (refAt 17 0 3 5))).map (·.scan) = some ⟨17, 0, 3, 5⟩ := by decide

/-- F1. -/
theorem test_fetchCell :
    (nextOf (exec .fetchCell (refAt 5 0 0 0))).map (fun t => (t.fetch.charQ, t.fetch.attrQ)) = some (0x41, 0b00111) := by decide

/-- F2: gaddr = 1043. -/
theorem test_fetchGlyph :
    (nextOf (exec .fetchGlyph { refAt 0 0 0 3 with fetch := ⟨0x41, 0, 0⟩ })).map (·.fetch.glyphQ) = some 0b11010000 := by decide

/-- S1. -/
theorem test_latchB :
    (nextOf (exec (.latchB false) { refAt 0 0 0 15 with fetch := ⟨0, 0b01101, 0b11010000⟩ })).map (·.latch) =
      some ⟨0b00001011, 0b01101, true⟩ := by decide

/-- S2. -/
theorem test_latchC :
    (nextOf (exec .latchC { refAt 0 0 7 0 with
      fetch := ⟨0, 0b10010, 0b10000001⟩, latch := ⟨0b00000001, 0b00111, true⟩ })).map (·.latch) =
      some ⟨0b10000001, 0b10010, false⟩ := by decide

/-- S4. -/
theorem test_shift_ignores_fetched_data :
    (nextOf (exec .shift { refAt 0 0 0 15 with
      fetch := ⟨0, 0b11111, 0b11111111⟩, latch := ⟨0b00001011, 0b01101, true⟩ })).map (·.latch) =
      some ⟨0b00000101, 0b01101, true⟩ := by decide

/-- S5. -/
theorem test_shift_fills_zero :
    (nextOf (exec .shift { refAt 0 0 6 0 with latch := ⟨0b10000000, 0b00111, false⟩ })).map (·.latch) =
      some ⟨0b01000000, 0b00111, false⟩ := by decide

/-- B2: P = 5. -/
theorem test_blinkCount :
    (nextOf (exec .blinkCount { refAt 0 0 0 0 with blink := ⟨3, false⟩ })).map (·.blink) = some ⟨4, false⟩ := by decide

/-- B4: P = 5. -/
theorem test_blinkToggle :
    (nextOf (exec .blinkToggle { refAt 0 0 0 0 with blink := ⟨4, true⟩ })).map (·.blink) = some ⟨0, false⟩ := by decide

/-- V1. -/
theorem test_compose_underline :
    (nextOf (exec .compose { refAt 0 0 0 0 with latch := ⟨1, 0b01101, true⟩ })).map (·.out) = some ⟨true, false, true⟩ := by
  decide

/-- K10: blink and underline in phase 0. -/
theorem test_compose_blink_dark :
    (nextOf (exec .compose { refAt 0 0 0 0 with latch := ⟨0, 0b11001, true⟩ })).map (·.out) = some ⟨false, false, false⟩ := by
  decide

/-- Program P2, tick 10: FRAME_RESET and LATCH in one tick, each on the state before the edge. -/
theorem test_step_p2_tick_10 :
    (nextOf (step { State.reset with
        scan := ⟨1, 0, 1, 0⟩, fetch := ⟨0x01, 0b00111, 0b1010⟩, latch := ⟨0, 0, false⟩, blink := ⟨1, true⟩,
        inputs := [0xE] })).map (fun t => (t.scan, t.fetch, t.latch, t.blink)) =
      some (⟨0, 0, 0, 0⟩, ⟨0x02, 0b01001, 0b1010⟩, ⟨0b0101, 0b00111, false⟩, ⟨2, true⟩) := by decide

/-- Program P1, tick 26: the commit, with the outputs of the tick. -/
theorem test_step_p1_tick_26 :
    (nextOf (step { State.reset with
        scan := ⟨2, 0, 0, 1⟩, fetch := ⟨0x03, 0b10010, 0b1001⟩, latch := ⟨0b1001, 0b10010, true⟩, blink := ⟨2, false⟩,
        inputs := [0x6] })).map (fun t => (t.scan, t.fetch, t.latch, t.blink, t.out)) =
      some (⟨2, 2, 0, 0⟩, ⟨0x03, 0b10010, 0b1001⟩, ⟨0b1001, 0b10010, true⟩, ⟨0, true⟩, ⟨false, false, false⟩) := by decide

/-- Program P1's encoding. -/
theorem test_stimulus_p1 :
    (stimulusFrame Config.tiny 3 1 3 2).map BitVec.toNat =
      [8, 0, 0, 0, 5, 5, 5, 5, 5, 5, 5, 5, 4, 6, 4, 4, 4, 5, 5, 5, 5, 5, 5, 5, 5, 4, 6, 4, 4, 4,
       5, 5, 5, 5, 5, 5, 5, 5, 4, 6, 4, 4, 4, 5, 5, 5, 5, 5, 5, 5, 5, 4, 6, 4, 4, 4, 0, 0] := by decide

/-! ## Witnesses: the hypotheses of each statement can be met, at the boundaries of its clauses -/

theorem witness_DecodeAndEncodeAgree :
    Instr.wf (.frameReset true false true) = true ∧ decode .ctl4 15 = .ok [.frameReset true true true] ∧
    decode .blk1 1 = .ok [.blinkToggle] := ⟨rfl, rfl, rfl⟩

theorem witness_EverySelectorWordIsLegal :
    15 < 2 ^ Format.ctl4.bits ∧ 2 ^ Format.ctl4.bits ≤ 16 ∧ 0 < 2 ^ Format.uncond.bits ∧ 2 ^ Format.uncond.bits ≤ 1 := by decide

theorem witness_DecoderFollowsMatchAndMask :
    (decode .ser2 3 = .ok [.latchC] ∧ Instr.latchC ∈ [Instr.latchC]) ∧
    (Format.ctl4 ≠ .uncond ∧ 12 < 2 ^ Format.ctl4.bits ∧ Instr.format (.frameReset true false false) = .ctl4 ∧
      Instr.format (.frameReset false true true) = .ctl4 ∧
      12 &&& (maskMatch (.frameReset true false false)).1 = (maskMatch (.frameReset true false false)).2 ∧
      12 &&& (maskMatch (.frameReset false true true)).1 = (maskMatch (.frameReset false true true)).2) :=
  ⟨⟨rfl, by decide⟩, by decide⟩

/-- Both branches: the last scanline and the one before it. -/
theorem witness_LineAdvanceCommitsOrRollsBack :
    (tinyAt 2 0 0 1 []).cfg.valid = true ∧ (tinyAt 2 0 0 1 []).scan.rowInGlyph < (tinyAt 2 0 0 1 []).cfg.glyphHeight ∧
    (tinyAt 2 0 0 0 []).scan.rowInGlyph < (tinyAt 2 0 0 0 []).cfg.glyphHeight := by decide

/-- The first and the last column. -/
theorem witness_PixelAdvanceCountsColumns :
    (tinyAt 2 0 0 0 []).cfg.valid = true ∧ (tinyAt 2 0 0 0 []).scan.columnInGlyph < (tinyAt 2 0 0 0 []).cfg.glyphWidth ∧
    (tinyAt 2 0 3 0 []).scan.columnInGlyph < (tinyAt 2 0 3 0 []).cfg.glyphWidth := by decide

/-- The last address of the Cell Buffers and the one past it. -/
theorem witness_FetchCellReadsBothBuffers :
    (tinyAt 3 0 0 0 []).scan.cellIndex < (tinyAt 3 0 0 0 []).cfg.totalCells ∧
    (tinyAt 4 0 0 0 []).cfg.totalCells ≤ (tinyAt 4 0 0 0 []).scan.cellIndex := by decide

/-- The last address of the Glyph Store and the one past it. -/
theorem witness_FetchGlyphReadsCodeTimesHeightPlusRow :
    ({ tinyAt 0 0 0 1 [] with fetch := ⟨0xFF, 0, 0⟩ } : State).fetch.charQ.toNat * 2 + 1 < 256 * Config.tiny.glyphHeight ∧
    256 * Config.tiny.glyphHeight ≤ ({ tinyAt 0 0 0 2 [] with fetch := ⟨0xFF, 0, 0⟩ } : State).fetch.charQ.toNat * 2 + 2 := by
  decide

theorem witness_BlinkCountIncrementsCounter :
    ({ State.reset with blink := ⟨1, true⟩ } : State).cfg.valid = true ∧
    ({ State.reset with blink := ⟨1, true⟩ } : State).blink.blinkCounter < Config.tiny.blinkHalfPeriod - 1 := by decide

/-- Counters of TINY that are not at their last value. -/
theorem witness_CounterAboveItsMaximumWraps :
    (tinyAt 0 0 2 0 []).scan.rowInGlyph ≠ (tinyAt 0 0 2 0 []).cfg.glyphHeight - 1 ∧
    (tinyAt 0 0 2 0 []).scan.columnInGlyph ≠ (tinyAt 0 0 2 0 []).cfg.glyphWidth - 1 := by decide

theorem witness_TrackerOperationsFrame :
    Instr.pixelAdvance.format = .ctl4 ∧ exec .pixelAdvance State.reset = .next (writeScan State.reset ⟨1, 0, 1, 0⟩) ∧
    exec .holdH State.reset = .next State.reset := ⟨rfl, rfl, rfl⟩

theorem witness_SerializerOperationsFrame :
    Instr.shift.format = .ser2 ∧ ∃ t, exec .shift State.reset = .next t := ⟨rfl, _, rfl⟩

theorem witness_OscillatorOperationsFrame :
    Instr.blinkCount.format = .blk1 ∧ ∃ t, exec .blinkCount State.reset = .next t := ⟨rfl, _, rfl⟩

theorem witness_FetchOperationsFrame :
    (∃ t, exec .fetchCell State.reset = .next t) ∧ ∃ t, exec .fetchGlyph State.reset = .next t := ⟨⟨_, rfl⟩, _, rfl⟩

theorem witness_ComposeFrame : ∃ t, exec .compose State.reset = .next t := ⟨_, rfl⟩

theorem witness_StepRunsDecodedOperations :
    let s := tinyAt 0 0 0 0 [0x5]
    s.cfg.valid = true ∧ decode .ctl4 (sampledCtl s).toNat = .ok [.pixelAdvance] ∧
    decode .ser2 (2 * ((sampledCtl s).getLsbD 0).toNat + (colLast s).toNat) = .ok [.shift] ∧
    decode .blk1 (blinkLast s).toNat = .ok [.blinkCount] ∧
    ∃ a b c d e f, exec .pixelAdvance s = .next a ∧ exec .shift s = .next b ∧ exec .blinkCount s = .next c ∧
      exec .fetchCell s = .next d ∧ exec .fetchGlyph s = .next e ∧ exec .compose s = .next f :=
  ⟨by decide, rfl, rfl, rfl, _, _, _, _, _, _, rfl, rfl, rfl, rfl, rfl, rfl⟩

theorem witness_PlacedWordIsRunByNextStep :
    State.reset.cfg.valid = true ∧ decodeTableWord 8 0xF = some (.frameReset true true true) ∧
    decodeTableWord 2 3 = some .latchC ∧ decodeTableWord 1 0 = some .blinkCount := by decide

/-- Counters at both ends of their ranges. -/
theorem witness_TickComputesEveryRegister :
    countersInRange State.reset = true ∧
    countersInRange { tinyAt 4 2 3 1 [0x5] with blink := ⟨2, true⟩ } = true := by decide

theorem witness_EveryTickCompletes : State.reset.cfg.valid = true := by decide

theorem witness_InvalidConfigurationIsRefused :
    Config.tiny.valid = true ∧ Config.valid { Config.tiny with glyphWidth := 3 } = false ∧
    (State.powerOn { Config.tiny with glyphWidth := 3 }).cfg = { Config.tiny with glyphWidth := 3 } := by decide

theorem witness_ReaderFirstSequenceIsTheTick : (tinyAt 1 0 3 1 [0x7]).cfg.valid = true := by decide

/-- One control word for each class of R81. -/
theorem witness_TrackerFirstMatchWins :
    State.reset.cfg.valid = true ∧ (sampledCtl (tinyAt 0 0 0 0 [0xF])).getLsbD 3 = true ∧
    sampledCtl (tinyAt 0 0 0 0 [0x7]) = 0b0111#4 ∧ sampledCtl (tinyAt 0 0 0 0 [0x5]) = 0b0101#4 ∧
    sampledCtl (tinyAt 0 0 0 0 [0x3]) = 0b0011#4 := by decide

theorem witness_FrameResetIdempotence :
    let s := tinyAt 4 2 3 1 ([0x8, 0xF] ++ [0x5])
    s.cfg.valid = true ∧ s.inputs = [0x8, 0xF] ++ [0x5] ∧ ([0x8, 0xF] : List Ctl).all isFrameReset = true ∧ 1 ≤ 2 ∧
      2 ≤ ([0x8, 0xF] : List Ctl).length := by decide

theorem witness_HeldLineStrobeAdvancesEveryTick :
    let s := tinyAt 2 0 3 1 ([0x6, 0x7, 0x6] ++ [])
    countersInRange s = true ∧ s.inputs = [0x6, 0x7, 0x6] ++ [] ∧
      ([0x6, 0x7, 0x6] : List Ctl).all isLineAdvance = true ∧ 3 ≤ ([0x6, 0x7, 0x6] : List Ctl).length := by decide

theorem witness_StepKeepsRegisterWidths :
    registersFit (tinyAt 7 7 3 1 [0x5]) = true ∧
    step (tinyAt 7 7 3 1 [0x5]) = .next (afterTick (tinyAt 7 7 3 1 [0x5]) 0x5) :=
  ⟨by decide, step_of_valid (by decide)⟩

theorem witness_StepKeepsCounterRanges :
    countersInRange (tinyAt 7 7 3 1 [0x6]) = true ∧
    step (tinyAt 7 7 3 1 [0x6]) = .next (afterTick (tinyAt 7 7 3 1 [0x6]) 0x6) :=
  ⟨by decide, step_of_valid (by decide)⟩

theorem witness_PowerOn : Config.tiny.valid = true ∧ blankReference.valid = true := by decide

/-- The stimulus of program P1 as a frame: vpre = 3, fp = 1, bp = 3, vpost = 2. -/
def frameP1 : FrameStream :=
  { resets := [0x8], pre := [0, 0, 0], lines := List.replicate 4 { front := [0x4], strobe := 0x6, back := [4, 4, 4] },
    post := [0, 0] }

/-- A frame without FRAME_RESET tick, with a last line that has no back porch. -/
def frameBare : FrameStream :=
  { resets := [], pre := [1, 2, 0],
    lines := List.replicate 3 { front := [], strobe := 0x7, back := [3, 1, 2] } ++ [{ front := [], strobe := 0x6, back := [] }],
    post := [] }

theorem test_frameP1_is_p1 : frameP1.words Config.tiny = stimulusFrame Config.tiny 3 1 3 2 := by decide

/-- A stream of two frames from power-on whose first has no FRAME_RESET tick, at both ends of k. -/
theorem witness_ScanIndexBoundsUnderContract :
    let s := { State.reset with inputs := streamWords Config.tiny [frameBare, frameP1] ++ [0x5] }
    s.cfg.valid = true ∧ streamConforms s.cfg [frameBare, frameP1] = true ∧
    (startsWithReset [frameBare, frameP1] = true ∨ s.scan = Scan.zero) ∧
    s.inputs = streamWords s.cfg [frameBare, frameP1] ++ [0x5] ∧
    1 ≤ (streamWords s.cfg [frameBare, frameP1]).length := by decide

theorem witness_RunsNeverChangeTables :
    runTicks 1 State.reset = .next (afterTick State.reset (sampledCtl State.reset)) ∧
    3 < Space.char.depth State.reset.cfg ∧ 511 < Space.glyph.depth State.reset.cfg :=
  ⟨by rw [runTicks_succ_of_valid (by decide), runTicks_zero], by decide, by decide⟩

theorem witness_ScanLineTrajectory :
    let s := tinyAt 2 2 0 1 (List.replicate 8 0x5 ++ [0x4])
    registersFit s = true ∧ s.scan.columnInGlyph = 0 ∧ s.inputs = List.replicate 8 0x5#4 ++ [0x4] ∧ 0 ≤ 8 ∧ 8 ≤ 8 := by decide

/-- The last character row of TINY. -/
theorem witness_CharacterRowIsScannedGlyphHeightTimes :
    let lines : List LineStream := [{ front := [0x4], strobe := 0x6, back := [0x4] }, { front := [], strobe := 0x7, back := [] }]
    let s := tinyAt 2 2 0 0 (lineWords Config.tiny lines ++ [])
    s.cfg.valid = true ∧ s.scan = { cellIndex := 2, rowStart := 2, columnInGlyph := 0, rowInGlyph := 0 } ∧
    2 + s.cfg.cellsPerRow ≤ s.cfg.totalCells ∧ lines.length = s.cfg.glyphHeight ∧ lines.all LineStream.holds = true ∧
    s.inputs = lineWords s.cfg lines ++ [] ∧ 1 < s.cfg.glyphHeight ∧ 8 ≤ s.cfg.activeWidth := by decide

/-- The last clause at both ends of k: tick 53 follows the last line strobe, tick 58 ends the frame. -/
theorem witness_FrameScanPositions :
    let s := tinyAt 4 2 3 1 (frameP1.words Config.tiny ++ [])
    s.cfg.valid = true ∧ frameP1.conforms s.cfg = true ∧ (frameP1.resets ≠ [] ∨ s.scan = Scan.zero) ∧
    s.inputs = frameP1.words s.cfg ++ [] ∧ 3 < s.cfg.activeHeight ∧
    frameP1.lines.getLast? = some { front := [0x4], strobe := 0x6, back := [4, 4, 4] } ∧
    frameP1.lineStart s.cfg s.cfg.activeHeight = 53 + [4, 4, 4].length ∧ 58 = (frameP1.words s.cfg).length ∧
    (frameP1.words s.cfg)[52]? = some 0x6 := by decide

theorem witness_FetchLatencyIsTwoTicks :
    State.reset.cfg.valid = true ∧ (tinyAt 3 2 0 0 [0x4]).scan.cellIndex < (tinyAt 3 2 0 0 [0x4]).cfg.totalCells ∧
    (afterTick (tinyAt 3 2 0 0 [0x4]) 0x4).scan.rowInGlyph < Config.tiny.glyphHeight := by decide

theorem witness_GlyphSpanShowsRowLeftToRight :
    let s := { tinyAt 0 0 0 0 (List.replicate 4 0x5 ++ []) with latch := ⟨revBits 4 0b1100, 0b00111, false⟩ }
    s.cfg.valid = true ∧ s.scan.columnInGlyph = 0 ∧
    (∀ i, s.latch.shiftRegister.testBit i =
      (decide (i < s.cfg.glyphWidth) && Nat.testBit 0b1100 (s.cfg.glyphWidth - 1 - i))) ∧
    s.inputs = List.replicate s.cfg.glyphWidth 0x5#4 ++ [] :=
  ⟨by decide, rfl, testBit_revBits 4 0b1100, rfl⟩

theorem witness_ActiveTicksLatchOncePerGlyph :
    let s := tinyAt 0 0 3 0 (List.replicate 8 0x5 ++ [])
    s.cfg.valid = true ∧ s.scan.columnInGlyph < s.cfg.glyphWidth ∧ s.inputs = List.replicate 8 0x5#4 ++ [] ∧ 7 < 8 := by decide

theorem witness_BlinkClosedForm :
    State.reset.cfg.valid = true ∧
    ({ State.reset with blink := ⟨2, true⟩ } : State).blink.blinkCounter < Config.tiny.blinkHalfPeriod := by decide

theorem witness_BlinkDependsOnItselfOnly :
    State.reset.cfg.valid = true ∧ (tinyAt 4 2 3 1 [0xF]).cfg = State.reset.cfg ∧
    (tinyAt 4 2 3 1 [0xF]).blink = State.reset.blink := by decide

theorem witness_OutputsIgnoreCurrentInputs :
    (tinyAt 0 0 0 0 [0x5]).cfg.valid = true ∧
    (sampledCtl { tinyAt 0 0 0 0 [0x5] with inputs := [0xF] }).getLsbD 0 = (sampledCtl (tinyAt 0 0 0 0 [0x5])).getLsbD 0 := by
  decide

theorem witness_CellIndexReachesOutputsLate : State.reset.cfg.valid = true ∧ 2 ≤ 2 ∧ 1 ≤ 1 := by decide

/-- The state two ticks on. -/
def afterTwo (s : State) : State := afterTick (afterTick s (sampledCtl s)) (sampledCtl (afterTick s (sampledCtl s)))

theorem runTicks_two_of_valid {s : State} (h : s.cfg.valid = true) : runTicks 2 s = .next (afterTwo s) := by
  rw [runTicks_succ_of_valid h, runTicks_succ_of_valid (by simpa [afterTick] using h), runTicks_zero, afterTwo]

/-- Tick 2 latches because `horizontal_enable` = 0. -/
theorem witness_PowerOnValuesAreForgotten :
    let s := tinyAt 1 0 3 1 [0x5, 0x5, 0x4, 0x5]
    let s' := { s with fetch := ⟨7, 3, 9⟩, latch := ⟨5, 31, true⟩, blink := ⟨2, true⟩ }
    (s.cfg.valid = true ∧ s'.cfg = s.cfg ∧ s'.scan = s.scan ∧ s'.inputs = s.inputs ∧ s'.tick = s.tick ∧ 2 ≤ 2 ∧ 2 < 3) ∧
    runTicks 2 s = .next (afterTwo s) ∧
    decodeSer2 (serializerSelector (afterTwo s) (sampledCtl (afterTwo s))) = .latchB false :=
  ⟨by decide, runTicks_two_of_valid (by decide), by decide⟩

/-- Tick 2 latches in the last column of an active span. -/
theorem witness_PowerOnValuesAreForgotten_last_column :
    let s := tinyAt 1 0 1 1 [0x5, 0x5, 0x5, 0x5]
    s.cfg.valid = true ∧ runTicks 2 s = .next (afterTwo s) ∧
    decodeSer2 (serializerSelector (afterTwo s) (sampledCtl (afterTwo s))) = .latchC :=
  ⟨by decide, runTicks_two_of_valid (by decide), by decide⟩

/-- The second of two frames, its last pixel. -/
theorem witness_DisplayShowsThePicture :
    let s := { State.reset with inputs := streamWords Config.tiny ([frameBare] ++ frameP1 :: []) ++ [] }
    s.cfg.valid = true ∧ streamConforms s.cfg ([frameBare] ++ frameP1 :: []) = true ∧
    (startsWithReset ([frameBare] ++ frameP1 :: []) = true ∨ s.scan = Scan.zero) ∧
    s.inputs = streamWords s.cfg ([frameBare] ++ frameP1 :: []) ++ [] ∧ 7 < s.cfg.activeWidth ∧ 3 < s.cfg.activeHeight := by decide

/-- The same from a state whose Scan State is arbitrary, the first frame beginning with FRAME_RESET. -/
theorem witness_DisplayShowsThePicture_any_state :
    let s := tinyAt 6 5 2 1 (streamWords Config.tiny ([] ++ frameP1 :: []) ++ [])
    s.cfg.valid = true ∧ streamConforms s.cfg ([] ++ frameP1 :: []) = true ∧
    (startsWithReset ([] ++ frameP1 :: []) = true ∨ s.scan = Scan.zero) ∧
    s.inputs = streamWords s.cfg ([] ++ frameP1 :: []) ++ [] ∧ 0 < s.cfg.activeWidth ∧ 0 < s.cfg.activeHeight := by decide

theorem witness_StimulusFrameConforms : 3 ≤ 3 ∧ 3 ≤ 3 := by decide

theorem witness_FrameHasEveryActiveTick : frameP1.conforms Config.tiny = true ∧ frameBare.conforms Config.tiny = true := by decide

theorem witness_TwoHoldTicksShowTheOldGlyph :
    let s := tinyAt 2 0 0 0 [0x6, 0x4, 0x4, 0x5]
    countersInRange s = true ∧ s.inputs = 0x6#4 :: 0x4#4 :: 0x4#4 :: [0x5#4] ∧ isLineAdvance 0x6#4 = true ∧
    isHold 0x4#4 = true ∧ isHold 0x4#4 = true ∧ horizontalEnable 0x4#4 = false ∧
    s.scan.cellIndex < s.cfg.totalCells ∧ s.scan.rowStart < s.cfg.totalCells := by decide

/-- The highest row counter of TINY, whose GH is a power of two. -/
theorem witness_GlyphAddressInRange :
    (tinyAt 0 0 0 1 []).scan.rowInGlyph < (tinyAt 0 0 0 1 []).cfg.glyphHeight ∧
    (tinyAt 0 0 0 1 []).cfg.glyphHeight = 2 ^ 1 := by decide

theorem witness_TableReadsAsSupplied :
    (∀ w ∈ [0, 255, 3], w < 2 ^ 8) ∧ 2 < ([0, 255, 3] : List Nat).length := by decide

theorem witness_CanonicalTablesAreDeterminedByReads :
    Config.tiny.charBuf.wf = true ∧ (Table.ofWords 8 [1, 2, 3, 4]).wf = true ∧
    Config.tiny.charBuf.depth = (Table.ofWords 8 [1, 2, 3, 4]).depth ∧
    Config.tiny.charBuf.width = (Table.ofWords 8 [1, 2, 3, 4]).width ∧
    (∀ a, a < 4 → tableRead Config.tiny.charBuf a = tableRead (Table.ofWords 8 [1, 2, 3, 4]) a) := by decide

end Sys2Proof.Tests
end

section
/-!
PROOFS. The Scan Position Tracker (spec/40_scan_tracker.md R100, R101): which control words select FRAME_RESET and LINE_ADVANCE,
and the Scan State LINE_ADVANCE leaves in its two cases.
-/

namespace Sys2Proof

/-! ## Selection, first match (spec/30_encoding.md R81, spec/40_scan_tracker.md R104) -/

theorem decodeCtl4_eq_frameReset_iff (w : Ctl) :
    (∃ e h n, decodeCtl4 w = .frameReset e h n) ↔ w.getLsbD 3 = true := by
  unfold decodeCtl4
  dsimp only
  constructor
  · rintro ⟨e, h, n, hdec⟩
    by_contra hvs
    rw [if_neg hvs] at hdec
    split_ifs at hdec
  · intro hvs
    exact ⟨_, _, _, if_pos hvs⟩

theorem decodeCtl4_eq_lineAdvance_iff (w : Ctl) :
    (∃ n, decodeCtl4 w = .lineAdvance n) ↔
      w.getLsbD 3 = false ∧ (w.getLsbD 1 && w.getLsbD 2) = true := by
  unfold decodeCtl4
  dsimp only
  constructor
  · rintro ⟨n, hdec⟩
    split_ifs at hdec with hvs hline
    exact ⟨Bool.eq_false_of_not_eq_true hvs, hline⟩
  · rintro ⟨hvs, hline⟩
    exact ⟨_, by rw [hvs, hline]; rfl⟩

/-- FRAME_RESET's row, mask 0x8 match 0x8, tests bit 3 only. -/
theorem ctl_and_frameResetMask_iff (w : Ctl) : w &&& 0x8#4 = 0x8#4 ↔ w.getLsbD 3 = true := by
  revert w
  decide

/-- LINE_ADVANCE's row, mask 0xE match 0x6, tests every bit but bit 0. -/
theorem ctl_and_lineAdvanceMask_iff (w : Ctl) :
    w &&& 0xE#4 = 0x6#4 ↔ w.getLsbD 3 = false ∧ (w.getLsbD 1 && w.getLsbD 2) = true := by
  revert w
  decide

namespace Machine

/-! ## The two cases of LINE_ADVANCE (spec/40_scan_tracker.md R101) -/

theorem rowLast_iff (s : State) : rowLast s = true ↔ s.scan.rowInGlyph = s.cfg.glyphHeight - 1 :=
  decide_eq_true_iff

/-- The commit: the finished character row's end becomes the new row start. -/
theorem lineAdvanceScan_of_last_row {s : State} (h : s.scan.rowInGlyph = s.cfg.glyphHeight - 1) :
    lineAdvanceScan s =
      { cellIndex := s.scan.cellIndex, rowStart := s.scan.cellIndex, columnInGlyph := 0, rowInGlyph := 0 } :=
  if_pos ((rowLast_iff s).2 h)

/-- W_ROW bits hold GH-1, so a row counter in range that is not at its last value counts without wrapping
(spec/40_scan_tracker.md R105). -/
theorem increment_rowInGlyph {s : State} (hrange : s.scan.rowInGlyph < s.cfg.glyphHeight)
    (h : s.scan.rowInGlyph ≠ s.cfg.glyphHeight - 1) :
    increment s.cfg.wRow s.scan.rowInGlyph = s.scan.rowInGlyph + 1 := by
  have hnext : s.scan.rowInGlyph + 1 < s.cfg.glyphHeight := by omega
  exact increment_of_lt (hnext.trans_le s.cfg.glyphHeight_le_two_pow_wRow)

/-- The roll back: the same character row again, one glyph scanline further. -/
theorem lineAdvanceScan_of_not_last_row {s : State} (hrange : s.scan.rowInGlyph < s.cfg.glyphHeight)
    (h : s.scan.rowInGlyph ≠ s.cfg.glyphHeight - 1) :
    lineAdvanceScan s =
      { cellIndex := s.scan.rowStart, rowStart := s.scan.rowStart, columnInGlyph := 0,
        rowInGlyph := s.scan.rowInGlyph + 1 } := by
  rw [lineAdvanceScan, if_neg (mt (rowLast_iff s).1 h), increment_rowInGlyph hrange h]

/-! ## The obligations -/

/-- Settles O5: FRAME_RESET is the first match, on bit 3 alone, and its one write is `Scan.zero`. -/
theorem frameResetZeroesScanState : Obligations.FrameResetZeroesScanState := by
  refine ⟨fun w => ?_, fun e h n s => ?_⟩
  · rw [ctl_and_frameResetMask_iff, decodeCtl4_eq_frameReset_iff]
  · rw [exec_frameReset]
    rfl

/-- Settles O6, by the two cases of R101. -/
theorem lineAdvanceCommitsOrRollsBack : Obligations.LineAdvanceCommitsOrRollsBack := by
  refine ⟨fun w => ?_, fun n s _ hrange => ?_⟩
  · rw [ctl_and_lineAdvanceMask_iff, decodeCtl4_eq_lineAdvance_iff]
  · rw [exec_lineAdvance]
    split
    case isTrue hlast => rw [lineAdvanceScan_of_last_row hlast]; rfl
    case isFalse hlast => rw [lineAdvanceScan_of_not_last_row hrange hlast]; rfl

end Machine
end Sys2Proof
end

section
/-!
PROOFS. The Glyph Serializer (spec/42_glyph_serializer.md R130): which selector words select LATCH, in its two patterns, and the
Render Latch that both of them load.
-/

namespace Sys2Proof

/-! ## Selection (spec/30_encoding.md R82) -/

theorem decodeSer2_eq_latchB_iff (w : SerSel) : (∃ c, decodeSer2 w = .latchB c) ↔ w.getLsbD 1 = false := by
  unfold decodeSer2
  dsimp only
  constructor
  · rintro ⟨c, hdec⟩
    by_contra henable
    rw [if_pos (Bool.eq_true_of_not_eq_false henable)] at hdec
    split_ifs at hdec
  · intro henable
    exact ⟨_, if_neg (Bool.eq_false_iff.1 henable)⟩

theorem decodeSer2_eq_latchC_iff (w : SerSel) :
    decodeSer2 w = .latchC ↔ w.getLsbD 1 = true ∧ w.getLsbD 0 = true := by
  unfold decodeSer2
  dsimp only
  constructor
  · intro hdec
    split_ifs at hdec with henable hlast
    exact ⟨henable, hlast⟩
  · rintro ⟨henable, hlast⟩
    rw [if_pos henable, if_pos hlast]

/-- LATCH.B's row, mask 0b10 match 0b00, tests `horizontal_enable` only. -/
theorem serSel_and_latchBMask_iff (w : SerSel) : w &&& 0b10#2 = 0b00#2 ↔ w.getLsbD 1 = false := by
  revert w
  decide

/-- LATCH.C's row, mask 0b11 match 0b11, tests both bits. -/
theorem serSel_eq_latchCMatch_iff (w : SerSel) : w = 0b11#2 ↔ w.getLsbD 1 = true ∧ w.getLsbD 0 = true := by
  revert w
  decide

namespace Machine

/-! ## The Render Latch after LATCH -/

theorem exec_latchB (c : Bool) (s : State) : exec (.latchB c) s = .next (writeLatch s (latchedRow s)) := rfl
theorem exec_latchC (s : State) : exec .latchC s = .next (writeLatch s (latchedRow s)) := rfl

theorem latchedRow_eq (s : State) :
    latchedRow s =
      { shiftRegister := revBits s.cfg.glyphWidth s.fetch.glyphQ, latchedAttribute := s.fetch.attrQ
        underlineActive := decide (s.scan.rowInGlyph = s.cfg.glyphHeight - 1) } := rfl

/-! ## The obligation -/

/-- Settles O11: the two patterns are told apart by their bits alone, and both load `latchedRow`, whose row word is the bit
reversal of the fetched one. -/
theorem latchLoadsReversedRow : Obligations.LatchLoadsReversedRow := by
  refine ⟨fun w => ⟨?_, ?_⟩, fun c s => ⟨revBits s.cfg.glyphWidth s.fetch.glyphQ, ?_, ?_, ?_⟩⟩
  · rw [serSel_and_latchBMask_iff, decodeSer2_eq_latchB_iff]
  · rw [serSel_eq_latchCMatch_iff, decodeSer2_eq_latchC_iff]
  · exact testBit_revBits s.cfg.glyphWidth s.fetch.glyphQ
  · rw [exec_latchB, latchedRow_eq]
    rfl
  · rw [exec_latchC, exec_latchB]

end Machine
end Sys2Proof
end

section
/-!
PROOFS. The Blink Oscillator (spec/43_blink_oscillator.md R140, R141): which selector bit selects BLINK_COUNT and which
BLINK_TOGGLE, and the Blink State that each of them leaves.
-/

namespace Sys2Proof

/-! ## Selection (spec/30_encoding.md R83) -/

theorem decodeBlk1_eq_blinkCount_iff (w : BlkSel) : decodeBlk1 w = .blinkCount ↔ w.getLsbD 0 = false := by
  unfold decodeBlk1
  cases w.getLsbD 0 with
  | false => simp
  | true => simp

theorem decodeBlk1_eq_blinkToggle_iff (w : BlkSel) : decodeBlk1 w = .blinkToggle ↔ w.getLsbD 0 = true := by
  unfold decodeBlk1
  cases w.getLsbD 0 with
  | false => simp
  | true => simp

/-- BLINK_COUNT's row, mask 0b1 match 0b0: `blink_last` is the whole word. -/
theorem blkSel_eq_blinkCountMatch_iff (w : BlkSel) : w = 0b0#1 ↔ w.getLsbD 0 = false := by
  revert w
  decide

/-- BLINK_TOGGLE's row, mask 0b1 match 0b1. -/
theorem blkSel_eq_blinkToggleMatch_iff (w : BlkSel) : w = 0b1#1 ↔ w.getLsbD 0 = true := by
  revert w
  decide

namespace Machine

/-! ## The Blink State after each operation -/

theorem exec_blinkCount (s : State) :
    exec .blinkCount s =
      .next (writeBlink s { s.blink with blinkCounter := increment s.cfg.wBlink s.blink.blinkCounter }) := rfl

theorem exec_blinkToggle (s : State) :
    exec .blinkToggle s = .next (writeBlink s { blinkCounter := 0, blinkPhase := !s.blink.blinkPhase }) := rfl

/-- W_BLINK bits hold P-1, so a blink counter below it counts without wrapping (spec/43_blink_oscillator.md R144). -/
theorem increment_blinkCounter {s : State} (h : s.blink.blinkCounter < s.cfg.blinkHalfPeriod - 1) :
    increment s.cfg.wBlink s.blink.blinkCounter = s.blink.blinkCounter + 1 := by
  have hnext : s.blink.blinkCounter + 1 < s.cfg.blinkHalfPeriod := by omega
  exact increment_of_lt (hnext.trans_le s.cfg.blinkHalfPeriod_le_two_pow_wBlink)

/-! ## The obligations -/

/-- Settles O13: below P-1 the increment does not wrap, and the counter is the one register written with a new value. -/
theorem blinkCountIncrementsCounter : Obligations.BlinkCountIncrementsCounter := by
  refine ⟨fun w => ?_, fun s _ hbelow => ?_⟩
  · rw [blkSel_eq_blinkCountMatch_iff, decodeBlk1_eq_blinkCount_iff]
  · rw [exec_blinkCount, increment_blinkCounter hbelow]
    rfl

/-- Settles O14, in every state: R141's write reads neither the counter nor P. -/
theorem blinkToggleInvertsPhase : Obligations.BlinkToggleInvertsPhase := by
  refine ⟨fun w => ?_, fun s => ?_⟩
  · rw [blkSel_eq_blinkToggleMatch_iff, decodeBlk1_eq_blinkToggle_iff]
  · rw [exec_blinkToggle]
    rfl

end Machine
end Sys2Proof
end

section
/-!
PROOFS. The tick (spec/45_tick_composition.md R160): the next value of each register group from a state whose counters are in
range, where no counter wraps at its width, and the whole tick assembled from them.
-/

namespace Sys2Proof.Machine

/-! ## The premises, as propositions (spec/10_state.md R33, spec/00_scope.md R14) -/

theorem countersInRange_iff (s : State) :
    countersInRange s = true ↔
      s.cfg.valid = true ∧ s.scan.columnInGlyph < s.cfg.glyphWidth ∧ s.scan.rowInGlyph < s.cfg.glyphHeight ∧
      s.blink.blinkCounter < s.cfg.blinkHalfPeriod := by
  simp [countersInRange, and_assoc]

theorem colZero_iff (s : State) : colZero s = true ↔ s.scan.columnInGlyph = 0 := decide_eq_true_iff

theorem colLast_iff (s : State) : colLast s = true ↔ s.scan.columnInGlyph = s.cfg.glyphWidth - 1 :=
  decide_eq_true_iff

theorem blinkLast_iff (s : State) : blinkLast s = true ↔ s.blink.blinkCounter = s.cfg.blinkHalfPeriod - 1 :=
  decide_eq_true_iff

/-! ## The Scan State (spec/40_scan_tracker.md R100 to R105) -/

/-- W_COL bits hold GW-1, so a column counter in range that is not at its last value counts without wrapping. -/
theorem increment_columnInGlyph {s : State} (hrange : s.scan.columnInGlyph < s.cfg.glyphWidth)
    (h : s.scan.columnInGlyph ≠ s.cfg.glyphWidth - 1) :
    increment s.cfg.wCol s.scan.columnInGlyph = s.scan.columnInGlyph + 1 := by
  have hnext : s.scan.columnInGlyph + 1 < s.cfg.glyphWidth := by omega
  exact increment_of_lt (hnext.trans_le s.cfg.glyphWidth_le_two_pow_wCol)

theorem lineAdvanceScan_of_row_in_range {s : State} (hrow : s.scan.rowInGlyph < s.cfg.glyphHeight) :
    lineAdvanceScan s =
      if s.scan.rowInGlyph = s.cfg.glyphHeight - 1 then
        { cellIndex := s.scan.cellIndex, rowStart := s.scan.cellIndex, columnInGlyph := 0, rowInGlyph := 0 }
      else
        { cellIndex := s.scan.rowStart, rowStart := s.scan.rowStart, columnInGlyph := 0,
          rowInGlyph := s.scan.rowInGlyph + 1 } := by
  split
  case isTrue hlast => exact lineAdvanceScan_of_last_row hlast
  case isFalse hlast => exact lineAdvanceScan_of_not_last_row hrow hlast

/-- The cell index keeps its modulo: W_CELL bits are all that bounds it from an arbitrary state. -/
theorem pixelAdvanceScan_of_column_in_range {s : State} (hcol : s.scan.columnInGlyph < s.cfg.glyphWidth) :
    pixelAdvanceScan s =
      { cellIndex :=
          if s.scan.columnInGlyph = 0 then (s.scan.cellIndex + 1) % 2 ^ s.cfg.wCell else s.scan.cellIndex
        rowStart := s.scan.rowStart
        columnInGlyph := if s.scan.columnInGlyph = s.cfg.glyphWidth - 1 then 0 else s.scan.columnInGlyph + 1
        rowInGlyph := s.scan.rowInGlyph } := by
  have hcolumn : (if s.scan.columnInGlyph = s.cfg.glyphWidth - 1 then 0
        else increment s.cfg.wCol s.scan.columnInGlyph) =
      if s.scan.columnInGlyph = s.cfg.glyphWidth - 1 then 0 else s.scan.columnInGlyph + 1 :=
    ite_congr rfl (fun _ => rfl) fun hlast => increment_columnInGlyph hcol hlast
  simp only [pixelAdvanceScan, colZero_iff, colLast_iff, hcolumn]
  rfl

theorem scanAfter_of_in_range {s : State} (hcol : s.scan.columnInGlyph < s.cfg.glyphWidth)
    (hrow : s.scan.rowInGlyph < s.cfg.glyphHeight) (w : Ctl) :
    scanAfter s w =
      if w.getLsbD 3 then Scan.zero
      else if w.getLsbD 1 && w.getLsbD 2 then
        if s.scan.rowInGlyph = s.cfg.glyphHeight - 1 then
          { cellIndex := s.scan.cellIndex, rowStart := s.scan.cellIndex, columnInGlyph := 0, rowInGlyph := 0 }
        else
          { cellIndex := s.scan.rowStart, rowStart := s.scan.rowStart, columnInGlyph := 0,
            rowInGlyph := s.scan.rowInGlyph + 1 }
      else if w.getLsbD 2 && w.getLsbD 0 then
        { cellIndex :=
            if s.scan.columnInGlyph = 0 then (s.scan.cellIndex + 1) % 2 ^ s.cfg.wCell else s.scan.cellIndex
          rowStart := s.scan.rowStart
          columnInGlyph := if s.scan.columnInGlyph = s.cfg.glyphWidth - 1 then 0 else s.scan.columnInGlyph + 1
          rowInGlyph := s.scan.rowInGlyph }
      else s.scan := by
  rw [scanAfter, lineAdvanceScan_of_row_in_range hrow, pixelAdvanceScan_of_column_in_range hcol]

/-! ## The Render Latch (spec/42_glyph_serializer.md R130, R131) -/

/-- LATCH as R160 writes it: the two patterns of R130 in one condition, the complement of SHIFT's. -/
theorem latchAfter_eq (s : State) (w : Ctl) :
    latchAfter s w =
      if !horizontalEnable w || colLast s then latchedRow s
      else { s.latch with shiftRegister := shiftTowardZero s.cfg.glyphWidth s.latch.shiftRegister } := by
  unfold latchAfter
  cases horizontalEnable w with
  | false => rfl
  | true =>
    cases colLast s with
    | false => rfl
    | true => rfl

/-! ## The Blink State (spec/43_blink_oscillator.md R140, R141) -/

theorem blinkAfter_of_in_range {s : State} (hblink : s.blink.blinkCounter < s.cfg.blinkHalfPeriod) :
    blinkAfter s =
      if s.blink.blinkCounter = s.cfg.blinkHalfPeriod - 1 then
        { blinkCounter := 0, blinkPhase := !s.blink.blinkPhase }
      else { blinkCounter := s.blink.blinkCounter + 1, blinkPhase := s.blink.blinkPhase } := by
  split
  case isTrue hlast => exact if_pos ((blinkLast_iff s).2 hlast)
  case isFalse hlast =>
    have hbelow : s.blink.blinkCounter < s.cfg.blinkHalfPeriod - 1 := by omega
    rw [blinkAfter, if_neg (mt (blinkLast_iff s).1 hlast), increment_blinkCounter hbelow]

/-! ## The obligation -/

/-- Settles O24: the tick is `afterTick`, whose fetch registers and outputs are R160's right-hand sides already; the Scan State and
the Blink State become R160's where the counters are in range, and the Render Latch in every state. -/
theorem tickComputesEveryRegister : Obligations.TickComputesEveryRegister := by
  intro s hs
  obtain ⟨hvalid, hcol, hrow, hblink⟩ := (countersInRange_iff s).1 hs
  dsimp only
  rw [step_of_valid hvalid, afterTick, scanAfter_of_in_range hcol hrow, latchAfter_eq,
    blinkAfter_of_in_range hblink]
  rfl

end Sys2Proof.Machine
end

section
/-!
PROOFS. Selection and encoding (spec/30_encoding.md R80 to R83, R86, R90, R94): decoder and encoder are inverse to each other format
by format, and the decoder selects the row of the opcode table that a word matches.
-/

namespace Sys2Proof

/-! ## The decoder's answers -/

theorem Format.admits_iff (f : Format) (w : Nat) : f.admits w = true ↔ w < 2 ^ f.bits := decide_eq_true_iff

/-- The operations that the selector word w of a format selects. -/
def selected (f : Format) (w : Nat) : List Instr :=
  match f with
  | .ctl4 => [decodeCtl4 (BitVec.ofNat 4 w)]
  | .ser2 => [decodeSer2 (BitVec.ofNat 2 w)]
  | .blk1 => [decodeBlk1 (BitVec.ofNat 1 w)]
  | .uncond => unconditional

theorem decode_of_lt {f : Format} {w : Nat} (h : w < 2 ^ f.bits) : decode f w = .ok (selected f w) :=
  if_pos ((f.admits_iff w).2 h)

theorem decode_of_ge {f : Format} {w : Nat} (h : 2 ^ f.bits ≤ w) : decode f w = .error (.tooWide f w) :=
  if_neg (mt (f.admits_iff w).1 (Nat.not_lt.2 h))

theorem decode_eq_ok_iff {f : Format} {w : Nat} {l : List Instr} :
    decode f w = .ok l ↔ w < 2 ^ f.bits ∧ selected f w = l := by
  rcases Nat.lt_or_ge w (2 ^ f.bits) with h | h
  · rw [decode_of_lt h, Except.ok.injEq]
    exact ⟨fun e => ⟨h, e⟩, fun e => e.2⟩
  · rw [decode_of_ge h]
    exact ⟨nofun, fun e => absurd e.1 (Nat.not_lt.2 h)⟩

/-! ## Decoder and encoder, format by format -/

theorem decodeCtl4_format (w : Ctl) : (decodeCtl4 w).format = .ctl4 := by
  revert w
  decide

theorem encode_decodeCtl4 (w : Ctl) : encode (decodeCtl4 w) = w.toNat := by
  revert w
  decide

theorem decodeSer2_format (w : SerSel) : (decodeSer2 w).format = .ser2 := by
  revert w
  decide

theorem encode_decodeSer2 (w : SerSel) : encode (decodeSer2 w) = w.toNat := by
  revert w
  decide

theorem decodeBlk1_format (w : BlkSel) : (decodeBlk1 w).format = .blk1 := by
  revert w
  decide

theorem encode_decodeBlk1 (w : BlkSel) : encode (decodeBlk1 w) = w.toNat := by
  revert w
  decide

/-- What a word selects is of its format and has that word. -/
theorem format_and_encode_of_mem_selected {f : Format} {w : Nat} {i : Instr} (hw : w < 2 ^ f.bits)
    (hi : i ∈ selected f w) : i.format = f ∧ encode i = w := by
  cases f with
  | ctl4 =>
    obtain rfl := List.mem_singleton.1 hi
    exact ⟨decodeCtl4_format _, (encode_decodeCtl4 _).trans (Nat.mod_eq_of_lt hw)⟩
  | ser2 =>
    obtain rfl := List.mem_singleton.1 hi
    exact ⟨decodeSer2_format _, (encode_decodeSer2 _).trans (Nat.mod_eq_of_lt hw)⟩
  | blk1 =>
    obtain rfl := List.mem_singleton.1 hi
    exact ⟨decodeBlk1_format _, (encode_decodeBlk1 _).trans (Nat.mod_eq_of_lt hw)⟩
  | uncond =>
    obtain rfl : w = 0 := Nat.lt_one_iff.1 hw
    have hall : ∀ j ∈ unconditional, j.format = .uncond ∧ encode j = 0 := by decide
    exact hall i hi

/-- An operation is among those its own word selects. -/
theorem mem_selected_encode (i : Instr) : i ∈ selected i.format (encode i) := by
  cases i with
  | frameReset e h n => revert e h n; decide
  | lineAdvance n => revert n; decide
  | holdV h n => revert h n; decide
  | latchB c => revert c; decide
  | _ => decide

/-! ## Mask and match (spec/30_encoding.md R94) -/

/-- `SelectorWordMatchesRow` of every operation, from its lemmas per constructor. -/
theorem selectorWordMatchesRow (i : Instr) : Laws.SelectorWordMatchesRow.Statement i := by
  cases i with
  | frameReset e h n => exact Laws.SelectorWordMatchesRow.frameReset e h n
  | lineAdvance n => exact Laws.SelectorWordMatchesRow.lineAdvance n
  | pixelAdvance => exact Laws.SelectorWordMatchesRow.pixelAdvance
  | holdV h n => exact Laws.SelectorWordMatchesRow.holdV h n
  | holdH => exact Laws.SelectorWordMatchesRow.holdH
  | latchB c => exact Laws.SelectorWordMatchesRow.latchB c
  | latchC => exact Laws.SelectorWordMatchesRow.latchC
  | shift => exact Laws.SelectorWordMatchesRow.shift
  | blinkCount => exact Laws.SelectorWordMatchesRow.blinkCount
  | blinkToggle => exact Laws.SelectorWordMatchesRow.blinkToggle
  | fetchCell => exact Laws.SelectorWordMatchesRow.fetchCell
  | fetchGlyph => exact Laws.SelectorWordMatchesRow.fetchGlyph
  | compose => exact Laws.SelectorWordMatchesRow.compose

/-- The rows of a format, as masks and matches. -/
def Format.tableRows : Format → List (Nat × Nat)
  | .ctl4 => [(0x8, 0x8), (0xE, 0x6), (0xF, 0x5), (0xC, 0x0), (0xF, 0x4)]
  | .ser2 => [(0x2, 0x0), (0x3, 0x3), (0x3, 0x2)]
  | .blk1 => [(0x1, 0x0), (0x1, 0x1)]
  | .uncond => [(0x0, 0x0)]

theorem maskMatch_mem_tableRows (i : Instr) : maskMatch i ∈ i.format.tableRows := by
  cases i <;> simp [maskMatch, Instr.format, Format.tableRows]

/-- A word that matches a row selects an operation of that row and none of another. -/
theorem maskMatch_of_mem_selected {f : Format} {w : Nat} {r : Nat × Nat} {i : Instr} (hw : w < 2 ^ f.bits)
    (hr : r ∈ f.tableRows) (hm : w &&& r.1 = r.2) (hi : i ∈ selected f w) : maskMatch i = r := by
  cases f with
  | ctl4 =>
    have hall : ∀ w < 16, ∀ r ∈ Format.ctl4.tableRows, w &&& r.1 = r.2 → ∀ i ∈ selected .ctl4 w, maskMatch i = r := by
      decide
    exact hall w hw r hr hm i hi
  | ser2 =>
    have hall : ∀ w < 4, ∀ r ∈ Format.ser2.tableRows, w &&& r.1 = r.2 → ∀ i ∈ selected .ser2 w, maskMatch i = r := by
      decide
    exact hall w hw r hr hm i hi
  | blk1 =>
    have hall : ∀ w < 2, ∀ r ∈ Format.blk1.tableRows, w &&& r.1 = r.2 → ∀ i ∈ selected .blk1 w, maskMatch i = r := by
      decide
    exact hall w hw r hr hm i hi
  | uncond =>
    have hall : ∀ r ∈ Format.uncond.tableRows, ∀ i ∈ unconditional, maskMatch i = r := by decide
    exact hall r hr i hi

theorem exists_mem_selected (f : Format) (w : Nat) : ∃ i, i ∈ selected f w := by
  cases f <;> exact ⟨_, List.mem_cons_self⟩

/-! ## The obligations -/

/-- Settles O2: a word selects operations of its own format and word only, and every operation is selected by its own word. -/
theorem decodeAndEncodeAgree : Obligations.DecodeAndEncodeAgree := by
  refine ⟨fun i _ => ⟨_, decode_of_lt (selectorWordMatchesRow i).1, mem_selected_encode i⟩, fun f w l i hdec => ?_⟩
  obtain ⟨hw, rfl⟩ := decode_eq_ok_iff.1 hdec
  constructor
  · exact format_and_encode_of_mem_selected hw
  · rintro ⟨rfl, rfl⟩
    exact mem_selected_encode i

/-- Settles O4: the word of a selected operation is the operation's own, which matches its row; and two rows that one word matches
are both the row of what it selects. -/
theorem decoderFollowsMatchAndMask : Obligations.DecoderFollowsMatchAndMask := by
  constructor
  · intro f w l i hdec hi
    obtain ⟨hw, rfl⟩ := decode_eq_ok_iff.1 hdec
    obtain ⟨-, rfl⟩ := format_and_encode_of_mem_selected hw hi
    exact (selectorWordMatchesRow i).2
  · rintro f w i j - hw rfl hj hmi hmj
    obtain ⟨sel, hsel⟩ := exists_mem_selected i.format w
    have hrow_i := maskMatch_of_mem_selected hw (maskMatch_mem_tableRows i) hmi hsel
    have hrow_j := maskMatch_of_mem_selected hw (hj ▸ maskMatch_mem_tableRows j) hmj hsel
    exact hrow_i.symm.trans hrow_j

/-- Settles O1: each word is evaluated, as the tables give it. -/
theorem decodeReadsSpecWords : Obligations.DecodeReadsSpecWords :=
  ⟨rfl, rfl, rfl, rfl, rfl, rfl, rfl, rfl, rfl, rfl, rfl⟩

/-- Settles O3, by the two cases of the word's width. -/
theorem everySelectorWordIsLegal : Obligations.EverySelectorWordIsLegal := by
  refine fun f w => ⟨fun hw => ⟨_, decode_of_lt hw, ?_, fun i hi => (format_and_encode_of_mem_selected hw hi).1⟩,
    decode_of_ge⟩
  cases f <;> rfl

end Sys2Proof
end

section
/-!
PROOFS. What each operation does and what it leaves unchanged: the tracker's PIXEL_ADVANCE and HOLD (spec/40_scan_tracker.md R102,
R103), the fetch pipeline (spec/41_fetch_pipeline.md R120, R121), SHIFT (spec/42_glyph_serializer.md R131), COMPOSE
(spec/44_pixel_compositor.md R150 to R152), and the frame of every component (spec/20_memory.md R54, R63).
-/

namespace Sys2Proof

/-! ## Selection (spec/30_encoding.md R81, R82) -/

theorem ctl_eq_pixelAdvanceMatch_iff (w : Ctl) : w = 0x5#4 ↔ decodeCtl4 w = .pixelAdvance := by
  revert w
  decide

theorem ctl_eq_holdHMatch_iff (w : Ctl) : w = 0x4#4 ↔ decodeCtl4 w = .holdH := by
  revert w
  decide

/-- HOLD.V's row, mask 0xC match 0x0, tests bits 3 and 2. -/
theorem ctl_and_holdVMask_iff (w : Ctl) : w &&& 0xC#4 = 0x0#4 ↔ w.getLsbD 3 = false ∧ w.getLsbD 2 = false := by
  revert w
  decide

theorem decodeCtl4_eq_holdV_iff (w : Ctl) :
    (∃ h n, decodeCtl4 w = .holdV h n) ↔ w.getLsbD 3 = false ∧ w.getLsbD 2 = false := by
  unfold decodeCtl4
  dsimp only
  constructor
  · rintro ⟨h, n, hdec⟩
    split_ifs at hdec with hvs hline hpixel hve
    exact ⟨Bool.eq_false_of_not_eq_true hvs, Bool.eq_false_of_not_eq_true hve⟩
  · rintro ⟨hvs, hve⟩
    rw [hvs, hve, Bool.and_false, Bool.false_and]
    exact ⟨_, _, rfl⟩

theorem serSel_eq_shiftMatch_iff (w : SerSel) : w = 0b10#2 ↔ decodeSer2 w = .shift := by
  revert w
  decide

namespace Machine

/-! ## The arms not yet said -/

theorem exec_holdV (h n : Bool) (s : State) : exec (.holdV h n) s = .next s := rfl

theorem exec_holdH (s : State) : exec .holdH s = .next s := rfl

theorem exec_shift (s : State) :
    exec .shift s =
      .next (writeLatch s { s.latch with shiftRegister := shiftTowardZero s.cfg.glyphWidth s.latch.shiftRegister }) := rfl

theorem exec_fetchCell (s : State) :
    exec .fetchCell s =
      .next (writeCell s (BitVec.ofNat 8 (memRead s .char s.scan.cellIndex))
        (BitVec.ofNat 5 (memRead s .attr s.scan.cellIndex))) := rfl

/-! ## The obligations on what an operation does -/

/-- Settles O7: in range, PIXEL_ADVANCE leaves R102's Scan State. -/
theorem pixelAdvanceCountsColumns : Obligations.PixelAdvanceCountsColumns := by
  refine ⟨ctl_eq_pixelAdvanceMatch_iff, fun s _ hcol => ?_⟩
  rw [exec_pixelAdvance, pixelAdvanceScan_of_column_in_range hcol]
  rfl

/-- Settles O8: each pattern of HOLD by its bits. -/
theorem holdWritesNothing : Obligations.HoldWritesNothing :=
  ⟨fun w => (ctl_and_holdVMask_iff w).trans (decodeCtl4_eq_holdV_iff w).symm, ctl_eq_holdHMatch_iff, exec_holdV, exec_holdH⟩

/-- Settles O9, by the address: in range both reads are the tables' words, beyond it they are draws. -/
theorem fetchCellReadsBothBuffers : Obligations.FetchCellReadsBothBuffers := by
  refine fun s => ⟨fun hin => ?_, fun _ => ⟨_, _, exec_fetchCell s⟩⟩
  have hchar : memRead s .char s.scan.cellIndex = tableRead s.cfg.charBuf s.scan.cellIndex := memRead_of_lt hin
  have hattr : memRead s .attr s.scan.cellIndex = tableRead s.cfg.attrBuf s.scan.cellIndex := memRead_of_lt hin
  rw [exec_fetchCell, hchar, hattr]
  rfl

/-- Settles O10, by the address; a draw has GW bits. -/
theorem fetchGlyphReadsCodeTimesHeightPlusRow : Obligations.FetchGlyphReadsCodeTimesHeightPlusRow := by
  refine fun s => ⟨fun hin => ?_, fun hout => ⟨drawWord s.cfg s.tick .glyph, drawWord_lt _ _ _, ?_⟩⟩
  · have hglyph : memRead s .glyph (glyphAddress s) = tableRead s.cfg.glyph (glyphAddress s) := memRead_of_lt hin
    rw [exec_fetchGlyph, hglyph]
    rfl
  · have hglyph : memRead s .glyph (glyphAddress s) = drawWord s.cfg s.tick .glyph := memRead_of_ge hout
    rw [exec_fetchGlyph, hglyph]
    rfl

/-- Settles O12: `shiftTowardZero` bit by bit. -/
theorem shiftMovesTowardBitZero : Obligations.ShiftMovesTowardBitZero :=
  ⟨serSel_eq_shiftMatch_iff, fun s => ⟨_, testBit_shiftTowardZero s.cfg.glyphWidth s.latch.shiftRegister, exec_shift s⟩⟩

/-- Settles O15: `composedOutputs` is R150 and R151 on the latched ATTR5 word. -/
theorem composeDrivesForegroundColour : Obligations.ComposeDrivesForegroundColour := exec_compose

/-- Settles O16: off its maximum each counter is the increment modulo 2^width, whatever its value. -/
theorem counterAboveItsMaximumWraps : Obligations.CounterAboveItsMaximumWraps := by
  refine fun n s => ⟨fun hrow => ?_, fun hcol => ?_, exec_blinkCount s⟩
  · rw [exec_lineAdvance, lineAdvanceScan, if_neg (mt (rowLast_iff s).1 hrow)]
    rfl
  · rw [exec_pixelAdvance, pixelAdvanceScan, if_neg (mt (colLast_iff s).1 hcol)]
    simp only [colZero_iff]
    rfl

/-- Settles O55: the predicate as a proposition, and the 32 combinations counted. -/
theorem foregroundTruthTable : Obligations.ForegroundTruthTable := by
  refine ⟨fun pixel row a phase => ?_, by decide⟩
  simp [foregroundActive, underlineBit, blinkBit]

/-! ## Frames

Each component's operations answer one of its writes of Machine/Ops.lean, so the frame is that write's. -/

theorem exec_tracker {i : Instr} (hi : i.format = .ctl4) (s : State) : ∃ v, exec i s = .next (writeScan s v) := by
  cases i with
  | frameReset e h n => exact ⟨_, exec_frameReset e h n s⟩
  | lineAdvance n => exact ⟨_, exec_lineAdvance n s⟩
  | pixelAdvance => exact ⟨_, exec_pixelAdvance s⟩
  | holdV h n => exact ⟨s.scan, rfl⟩
  | holdH => exact ⟨s.scan, rfl⟩
  | _ => cases hi

theorem exec_serializer {i : Instr} (hi : i.format = .ser2) (s : State) : ∃ v, exec i s = .next (writeLatch s v) := by
  cases i with
  | latchB c => exact ⟨_, exec_latchB c s⟩
  | latchC => exact ⟨_, exec_latchC s⟩
  | shift => exact ⟨_, exec_shift s⟩
  | _ => cases hi

theorem exec_oscillator {i : Instr} (hi : i.format = .blk1) (s : State) : ∃ v, exec i s = .next (writeBlink s v) := by
  cases i with
  | blinkCount => exact ⟨_, exec_blinkCount s⟩
  | blinkToggle => exact ⟨_, exec_blinkToggle s⟩
  | _ => cases hi

/-- The next state of an operation whose answer is known. -/
theorem eq_of_exec_eq {i : Instr} {s t u : State} (hu : exec i s = .next u) (ht : exec i s = .next t) : t = u :=
  Host.Outcome.next.inj (ht.symm.trans hu)

/-! ## The obligations on frames -/

/-- Settles O17: a tracker operation is a write of the Scan State; the registers PIXEL_ADVANCE and HOLD keep are read off it. -/
theorem trackerOperationsFrame : Obligations.TrackerOperationsFrame := by
  intro i s t hi ht
  have hpixel : i = .pixelAdvance → t.scan.rowStart = s.scan.rowStart ∧ t.scan.rowInGlyph = s.scan.rowInGlyph := by
    rintro rfl
    obtain rfl := eq_of_exec_eq (exec_pixelAdvance s) ht
    exact ⟨rfl, rfl⟩
  have hhold : i = .holdH ∨ (∃ h n, i = .holdV h n) → t.scan = s.scan := by
    rintro (rfl | ⟨h, n, rfl⟩)
    · rw [eq_of_exec_eq (exec_holdH s) ht]
    · rw [eq_of_exec_eq (exec_holdV h n s) ht]
  obtain ⟨v, hv⟩ := exec_tracker hi s
  obtain rfl := eq_of_exec_eq hv ht
  exact ⟨rfl, rfl, rfl, rfl, rfl, rfl, rfl, memRead_congr rfl rfl, hpixel, hhold⟩

/-- Settles O18: a serializer operation is a write of the Render Latch. -/
theorem serializerOperationsFrame : Obligations.SerializerOperationsFrame := by
  intro i s t hi ht
  have hshift : i = .shift → t.latch.latchedAttribute = s.latch.latchedAttribute ∧
      t.latch.underlineActive = s.latch.underlineActive := by
    rintro rfl
    obtain rfl := eq_of_exec_eq (exec_shift s) ht
    exact ⟨rfl, rfl⟩
  obtain ⟨v, hv⟩ := exec_serializer hi s
  obtain rfl := eq_of_exec_eq hv ht
  exact ⟨rfl, rfl, rfl, rfl, rfl, rfl, rfl, memRead_congr rfl rfl, hshift⟩

/-- Settles O19: an oscillator operation is a write of the Blink State. -/
theorem oscillatorOperationsFrame : Obligations.OscillatorOperationsFrame := by
  intro i s t hi ht
  have hcount : i = .blinkCount → t.blink.blinkPhase = s.blink.blinkPhase := by
    rintro rfl
    rw [eq_of_exec_eq (exec_blinkCount s) ht]
    rfl
  obtain ⟨v, hv⟩ := exec_oscillator hi s
  obtain rfl := eq_of_exec_eq hv ht
  exact ⟨rfl, rfl, rfl, rfl, rfl, rfl, rfl, memRead_congr rfl rfl, hcount⟩

/-- Settles O20: the two fetch operations write their own read-data registers. -/
theorem fetchOperationsFrame : Obligations.FetchOperationsFrame := by
  rintro i s t (rfl | rfl) ht
  · obtain rfl := eq_of_exec_eq (exec_fetchCell s) ht
    exact ⟨rfl, rfl, rfl, rfl, rfl, rfl, rfl, memRead_congr rfl rfl, fun _ => rfl, nofun⟩
  · obtain rfl := eq_of_exec_eq (exec_fetchGlyph s) ht
    exact ⟨rfl, rfl, rfl, rfl, rfl, rfl, rfl, memRead_congr rfl rfl, nofun, fun _ => ⟨rfl, rfl⟩⟩

/-- Settles O21: COMPOSE drives the outputs. -/
theorem composeFrame : Obligations.ComposeFrame := by
  intro s t ht
  obtain rfl := eq_of_exec_eq (exec_compose s) ht
  exact ⟨rfl, rfl, rfl, rfl, rfl, rfl, rfl, memRead_congr rfl rfl⟩

end Machine
end Sys2Proof
end

section
/-!
PROOFS. One tick: the invariants that every step keeps (spec/10_state.md R20, R33), the power-on state (R30, R32), the decoded
operations (spec/30_encoding.md R87), the placed selector word, first match (spec/40_scan_tracker.md R104), the reader-first
sequence (spec/45_tick_composition.md R161) and the refusal of invalid configurations (spec/60_exceptions.md R171).
-/

namespace Sys2Proof

/-! ## Bounds of a valid configuration (CFG6, CFG7, CFG8) -/

theorem Config.valid_bounds {c : Config} (h : c.valid = true) :
    4 ≤ c.glyphWidth ∧ 1 ≤ c.glyphHeight ∧ 1 ≤ c.blinkHalfPeriod := by
  obtain ⟨-, -, -, -, -, hgw, ⟨hgh, -, -⟩, hp⟩ := (Config.valid_iff c).1 h
  exact ⟨hgw, hgh, hp⟩

namespace Machine

/-! ## The Scan State after a control word of each class (spec/40_scan_tracker.md R104) -/

theorem isLineAdvance_iff (w : Ctl) :
    isLineAdvance w = true ↔ w.getLsbD 3 = false ∧ w.getLsbD 1 = true ∧ w.getLsbD 2 = true := by
  revert w
  decide

theorem isPixelAdvance_iff (w : Ctl) :
    isPixelAdvance w = true ↔
      w.getLsbD 3 = false ∧ (w.getLsbD 1 && w.getLsbD 2) = false ∧ w.getLsbD 2 = true ∧ w.getLsbD 0 = true := by
  revert w
  decide

theorem isHold_iff (w : Ctl) :
    isHold w = true ↔
      w.getLsbD 3 = false ∧ (w.getLsbD 1 && w.getLsbD 2) = false ∧ (w.getLsbD 2 && w.getLsbD 0) = false := by
  revert w
  decide

theorem scanAfter_of_isFrameReset (s : State) {w : Ctl} (h : isFrameReset w = true) : scanAfter s w = Scan.zero :=
  if_pos h

theorem scanAfter_of_isLineAdvance (s : State) {w : Ctl} (h : isLineAdvance w = true) :
    scanAfter s w = lineAdvanceScan s := by
  obtain ⟨hvs, hhs, hve⟩ := (isLineAdvance_iff w).1 h
  rw [scanAfter, hvs, hhs, hve]
  rfl

theorem scanAfter_of_isPixelAdvance (s : State) {w : Ctl} (h : isPixelAdvance w = true) :
    scanAfter s w = pixelAdvanceScan s := by
  obtain ⟨hvs, hline, hve, hhe⟩ := (isPixelAdvance_iff w).1 h
  rw [scanAfter, hvs, hline, hve, hhe]
  rfl

theorem scanAfter_of_isHold (s : State) {w : Ctl} (h : isHold w = true) : scanAfter s w = s.scan := by
  obtain ⟨hvs, hline, hpixel⟩ := (isHold_iff w).1 h
  rw [scanAfter, hvs, hline, hpixel]
  rfl

/-! ## The register widths (spec/10_state.md R20, spec/00_scope.md R7) -/

/-- The Scan State's four registers fit their widths. -/
def ScanFits (c : Config) (v : Scan) : Prop :=
  v.cellIndex < 2 ^ c.wCell ∧ v.rowStart < 2 ^ c.wCell ∧ v.columnInGlyph < 2 ^ c.wCol ∧ v.rowInGlyph < 2 ^ c.wRow

theorem registersFit_iff (s : State) :
    registersFit s = true ↔
      s.cfg.valid = true ∧ ScanFits s.cfg s.scan ∧ s.fetch.glyphQ < 2 ^ s.cfg.glyphWidth ∧
      s.latch.shiftRegister < 2 ^ s.cfg.glyphWidth ∧ s.blink.blinkCounter < 2 ^ s.cfg.wBlink := by
  simp [registersFit, ScanFits, and_assoc]

theorem scanFits_zero (c : Config) : ScanFits c Scan.zero :=
  ⟨Nat.two_pow_pos _, Nat.two_pow_pos _, Nat.two_pow_pos _, Nat.two_pow_pos _⟩

theorem lineAdvanceScan_fits {s : State} (h : ScanFits s.cfg s.scan) : ScanFits s.cfg (lineAdvanceScan s) := by
  obtain ⟨hcell, hstart, -, -⟩ := h
  unfold lineAdvanceScan
  split
  · exact ⟨hcell, hcell, Nat.two_pow_pos _, Nat.two_pow_pos _⟩
  · exact ⟨hstart, hstart, Nat.two_pow_pos _, increment_lt _ _⟩

theorem pixelAdvanceScan_fits {s : State} (h : ScanFits s.cfg s.scan) : ScanFits s.cfg (pixelAdvanceScan s) := by
  obtain ⟨hcell, hstart, -, hrow⟩ := h
  refine ⟨?_, hstart, ?_, hrow⟩
  · unfold pixelAdvanceScan
    dsimp only
    split
    · exact increment_lt _ _
    · exact hcell
  · unfold pixelAdvanceScan
    dsimp only
    split
    · exact Nat.two_pow_pos _
    · exact increment_lt _ _

theorem scanAfter_fits {s : State} (h : ScanFits s.cfg s.scan) (w : Ctl) : ScanFits s.cfg (scanAfter s w) := by
  unfold scanAfter
  split
  · exact scanFits_zero s.cfg
  · split
    · exact lineAdvanceScan_fits h
    · split
      · exact pixelAdvanceScan_fits h
      · exact h

theorem latchAfter_shiftRegister_lt (s : State) (w : Ctl) : (latchAfter s w).shiftRegister < 2 ^ s.cfg.glyphWidth := by
  unfold latchAfter
  split
  · exact shiftTowardZero_lt _ _
  · exact revBits_lt _ _

theorem blinkAfter_blinkCounter_lt (s : State) : (blinkAfter s).blinkCounter < 2 ^ s.cfg.wBlink := by
  unfold blinkAfter
  split
  · exact Nat.two_pow_pos _
  · exact increment_lt _ _

/-! ## The counter ranges (spec/10_state.md R33) -/

theorem scanAfter_in_range {s : State} (hv : s.cfg.valid = true) (hcol : s.scan.columnInGlyph < s.cfg.glyphWidth)
    (hrow : s.scan.rowInGlyph < s.cfg.glyphHeight) (w : Ctl) :
    (scanAfter s w).columnInGlyph < s.cfg.glyphWidth ∧ (scanAfter s w).rowInGlyph < s.cfg.glyphHeight := by
  obtain ⟨hgw, hgh, -⟩ := Config.valid_bounds hv
  have hgw0 : 0 < s.cfg.glyphWidth := by omega
  rw [scanAfter_of_in_range hcol hrow]
  split
  · exact ⟨hgw0, hgh⟩
  · split
    · split
      · exact ⟨hgw0, hgh⟩
      · exact ⟨hgw0, by dsimp only; omega⟩
    · split
      · refine ⟨?_, hrow⟩
        dsimp only
        split <;> omega
      · exact ⟨hcol, hrow⟩

theorem blinkAfter_in_range {s : State} (hblink : s.blink.blinkCounter < s.cfg.blinkHalfPeriod) :
    (blinkAfter s).blinkCounter < s.cfg.blinkHalfPeriod := by
  rw [blinkAfter_of_in_range hblink]
  split <;> dsimp only <;> omega

theorem afterTick_countersInRange {s : State} (h : countersInRange s = true) (w : Ctl) :
    countersInRange (afterTick s w) = true := by
  obtain ⟨hv, hcol, hrow, hblink⟩ := (countersInRange_iff s).1 h
  obtain ⟨hcol', hrow'⟩ := scanAfter_in_range hv hcol hrow w
  exact (countersInRange_iff _).2 ⟨hv, hcol', hrow', blinkAfter_in_range hblink⟩

/-! ## The obligations on invariants -/

/-- Settles O31, register group by register group; a fetched row fits because the Glyph Store's words do. -/
theorem stepKeepsRegisterWidths : Obligations.StepKeepsRegisterWidths := by
  intro s t hs ht
  obtain ⟨hv, hscan, -, -, -⟩ := (registersFit_iff s).1 hs
  obtain ⟨-, rfl⟩ := step_eq_next ht
  exact (registersFit_iff _).2
    ⟨hv, scanAfter_fits hscan _, memRead_lt hv .glyph _, latchAfter_shiftRegister_lt s _, blinkAfter_blinkCounter_lt s⟩

/-- Settles O32. -/
theorem stepKeepsCounterRanges : Obligations.StepKeepsCounterRanges := by
  intro s t hs ht
  obtain ⟨-, rfl⟩ := step_eq_next ht
  exact afterTick_countersInRange hs _

theorem powerOn_registersFit {c : Config} (h : c.valid = true) : registersFit (State.powerOn c) = true :=
  (registersFit_iff _).2 ⟨h, scanFits_zero c, Nat.two_pow_pos _, Nat.two_pow_pos _, Nat.two_pow_pos _⟩

theorem powerOn_countersInRange {c : Config} (h : c.valid = true) : countersInRange (State.powerOn c) = true := by
  obtain ⟨hgw, hgh, hp⟩ := Config.valid_bounds h
  exact (countersInRange_iff _).2 ⟨h, (by omega : 0 < c.glyphWidth), hgh, hp⟩

/-- Settles O33; State.reset is the power-on state of TINY, which is valid. -/
theorem powerOnMeetsInvariants : Obligations.PowerOnMeetsInvariants := by
  have htiny : Config.tiny.valid = true := by decide
  exact ⟨fun c h => ⟨powerOn_registersFit h, powerOn_countersInRange h, Config.valid_memoryWf h⟩,
    powerOn_registersFit htiny, powerOn_countersInRange htiny⟩

/-- Settles O34: the first outputs are black because the latched ATTR5 word has no colour bit. -/
theorem powerOnRegistersZeroAndFirstOutputBlack : Obligations.PowerOnRegistersZeroAndFirstOutputBlack := by
  refine fun c => ⟨rfl, rfl, rfl, rfl, rfl, fun h ws => ⟨_, step_of_valid h, ?_⟩⟩
  have hblack : ∀ fg, gateColour fg 0 = Rgb.black := by decide
  exact hblack _

/-! ## Decoded operations and the tick -/

theorem selected_ctl4_toNat (w : Ctl) : selected .ctl4 w.toNat = [decodeCtl4 w] := by
  rw [selected, BitVec.ofNat_toNat, BitVec.setWidth_eq]

/-- Settles O22: the decoded operations are those whose writes `afterTick` collects. -/
theorem stepRunsDecodedOperations : Obligations.StepRunsDecodedOperations := by
  intro s ti si bi a b c d e f hv hti hsi hbi ha hb hc hd he hf
  have htracker : ti = decodeCtl4 (sampledCtl s) := by
    have h := (decode_eq_ok_iff.1 hti).2
    rw [selected_ctl4_toNat] at h
    exact (List.singleton_inj.1 h).symm
  have hserializer : si = decodeSer2 (serializerSelector s (sampledCtl s)) :=
    (List.singleton_inj.1 (decode_eq_ok_iff.1 hsi).2).symm
  have hoscillator : bi = decodeBlk1 (oscillatorSelector s) := (List.singleton_inj.1 (decode_eq_ok_iff.1 hbi).2).symm
  subst htracker hserializer hoscillator
  rw [step_of_valid hv, eq_of_exec_eq (exec_decodeCtl4 s _) ha, eq_of_exec_eq (exec_decodeSer2 s _) hb,
    eq_of_exec_eq (exec_decodeBlk1 s) hc, eq_of_exec_eq (exec_fetchCell s) hd, eq_of_exec_eq (exec_fetchGlyph s) he,
    eq_of_exec_eq (exec_compose s) hf]
  rfl

/-- Settles O28: the four classes of control words, in the order of `scanAfter`'s branches. -/
theorem trackerFirstMatchWins : Obligations.TrackerFirstMatchWins := by
  refine fun s hv => ⟨_, step_of_valid hv, fun hvs => scanAfter_of_isFrameReset s hvs, fun hvs hhs hve => ?_,
    fun hvs hline hve hhe => ?_, fun hvs hline hpixel => ?_⟩
  · exact ⟨false, _, exec_lineAdvance false s, scanAfter_of_isLineAdvance s ((isLineAdvance_iff _).2 ⟨hvs, hhs, hve⟩)⟩
  · exact ⟨_, exec_pixelAdvance s, scanAfter_of_isPixelAdvance s ((isPixelAdvance_iff _).2 ⟨hvs, hline, hve, hhe⟩)⟩
  · exact scanAfter_of_isHold s ((isHold_iff _).2 ⟨hvs, hline, hpixel⟩)

/-- Settles O27: each operation of the sequence writes no register that a later one reads, so each answers as on the state before
the tick. -/
theorem readerFirstSequenceIsTheTick : Obligations.ReaderFirstSequenceIsTheTick := by
  intro s hv
  let s1 := driveOutputs s (composedOutputs s)
  let s2 := writeLatch s1 (latchAfter s (sampledCtl s))
  let s3 := writeGlyph s2 (fetchAfter s).glyphQ
  let s4 := writeCell s3 (fetchAfter s).charQ (fetchAfter s).attrQ
  let s5 := writeScan s4 (scanAfter s (sampledCtl s))
  have hserializer : exec (decodeSer2 (serializerSelector s (sampledCtl s))) s1 = .next s2 :=
    exec_decodeSer2 s1 (sampledCtl s)
  have hglyph : exec .fetchGlyph s2 = .next s3 := exec_fetchGlyph s2
  have hcell : exec .fetchCell s3 = .next s4 := exec_fetchCell s3
  have htracker : exec (decodeCtl4 (sampledCtl s)) s4 = .next s5 := exec_decodeCtl4 s4 (sampledCtl s)
  have hoscillator : exec (decodeBlk1 (oscillatorSelector s)) s5 = .next (writeBlink s5 (blinkAfter s)) :=
    exec_decodeBlk1 s5
  rw [step_of_valid hv, readerFirstTick, exec_compose, andThen_next, hserializer, andThen_next, hglyph, andThen_next,
    hcell, andThen_next, htracker, andThen_next, hoscillator, andThen_next]
  rfl

/-! ## Invalid configurations (spec/00_scope.md R8) -/

theorem mem_failedChecks_iff (c : Config) (k : ConfigCheck) : k ∈ failedChecks c ↔ k.passes c = false := by
  have hall : k ∈ allChecks := by cases k <;> decide
  simp [failedChecks, hall]

theorem failedChecks_ne_nil {c : Config} (h : c.valid = false) : failedChecks c ≠ [] := by
  intro hnil
  have hvalid : c.valid = true :=
    List.all_eq_true.2 fun k _ => by
      by_contra hk
      have hmem := (mem_failedChecks_iff c k).2 (Bool.eq_false_of_not_eq_true hk)
      rw [hnil] at hmem
      exact List.not_mem_nil hmem
  rw [h] at hvalid
  cases hvalid

/-- Settles O26: construction and step both refuse with `failedChecks`. -/
theorem invalidConfigurationIsRefused : Obligations.InvalidConfigurationIsRefused := by
  refine fun c => ⟨fun h => if_pos h, fun h => ⟨failedChecks c, if_neg (Bool.eq_false_iff.1 h), failedChecks_ne_nil h,
    mem_failedChecks_iff c, ?_⟩⟩
  rintro s rfl
  exact if_neg (Bool.eq_false_iff.1 h)

/-! ## The placed selector word (notes/assumptions/12.md, notes/assumptions/13.md) -/

theorem decodeTableWord_eq_some_iff {nbits w : Nat} {i : Instr} :
    decodeTableWord nbits w = some i ↔ decode (formatOfBits nbits) w = .ok [i] := by
  unfold decodeTableWord
  split
  case h_1 j hj => rw [hj]; simp
  case h_2 l hne hl =>
    rw [hl]
    exact ⟨nofun, fun e => absurd (Except.ok.inj e) (hne i)⟩
  case h_3 r hr => rw [hr]; exact ⟨nofun, nofun⟩

theorem sampledCtl_placeSelector_ctl4 (s : State) (w : Nat) :
    sampledCtl (placeSelector s .ctl4 w) = BitVec.ofNat 4 w := rfl

/-- GW is at least 4, so the columns 0 and GW-1 differ. -/
theorem colLast_scanWithColLast {s : State} (hv : s.cfg.valid = true) (last : Bool) :
    colLast { s with scan := scanWithColLast s last } = last := by
  obtain ⟨hgw, -, -⟩ := Config.valid_bounds hv
  unfold scanWithColLast
  split
  case isTrue h => exact h
  case isFalse =>
    cases last with
    | true => simp [colLast]
    | false =>
      simp only [colLast, Bool.false_eq_true, if_false, decide_eq_false_iff_not]
      omega

/-- Where P is 1 the counter's one value in range is its last, and 1 is placed. -/
theorem blinkLast_blinkWithLast {s : State} (hv : s.cfg.valid = true) (last : Bool) :
    blinkLast { s with blink := blinkWithLast s last } = last := by
  obtain ⟨-, -, hp⟩ := Config.valid_bounds hv
  unfold blinkWithLast
  split
  case isTrue h => exact h
  case isFalse =>
    cases last with
    | true => simp [blinkLast]
    | false =>
      simp only [blinkLast, Bool.false_eq_true, if_false, decide_eq_false_iff_not]
      split <;> omega

theorem horizontalEnable_merge (v : Ctl) (he : Bool) :
    horizontalEnable ((v &&& 0xE#4) ||| (if he then 1#4 else 0#4)) = he := by
  revert v he
  decide

/-- A word is the number of its low two bits. -/
theorem ofNat_two_eq_of_testBits (w : Nat) :
    BitVec.ofNat 2 (2 * (w.testBit 1).toNat + (w.testBit 0).toNat) = BitVec.ofNat 2 w := by
  apply BitVec.eq_of_toNat_eq
  simp only [BitVec.toNat_ofNat, Nat.toNat_testBit]
  omega

theorem ofNat_one_eq_of_testBit (w : Nat) : BitVec.ofNat 1 (w.testBit 0).toNat = BitVec.ofNat 1 w := by
  apply BitVec.eq_of_toNat_eq
  simp only [BitVec.toNat_ofNat, Nat.toNat_testBit]
  omega

theorem serializerSelector_placeSelector {s : State} (hv : s.cfg.valid = true) (w : Nat) :
    serializerSelector (placeSelector s .ser2 w) (sampledCtl (placeSelector s .ser2 w)) = BitVec.ofNat 2 w := by
  have henable : horizontalEnable (sampledCtl (placeSelector s .ser2 w)) = w.testBit 1 :=
    horizontalEnable_merge (sampledCtl s) (w.testBit 1)
  have hlast : colLast (placeSelector s .ser2 w) = w.testBit 0 := colLast_scanWithColLast hv (w.testBit 0)
  rw [serializerSelector, henable, hlast, ofNat_two_eq_of_testBits]

theorem oscillatorSelector_placeSelector {s : State} (hv : s.cfg.valid = true) (w : Nat) :
    oscillatorSelector (placeSelector s .blk1 w) = BitVec.ofNat 1 w := by
  have hlast : blinkLast (placeSelector s .blk1 w) = w.testBit 0 := blinkLast_blinkWithLast hv (w.testBit 0)
  rw [oscillatorSelector, hlast, ofNat_one_eq_of_testBit]

theorem placeSelector_cfg (s : State) (f : Format) (w : Nat) : (placeSelector s f w).cfg = s.cfg := by
  cases f <;> rfl

/-- Settles O23, format by format: the placed state's own selector is the word. -/
theorem placedWordIsRunByNextStep : Obligations.PlacedWordIsRunByNextStep := by
  intro s nbits w i hv hdec
  obtain ⟨-, hsel⟩ := decode_eq_ok_iff.1 (decodeTableWord_eq_some_iff.1 hdec)
  have hstep : ∀ f, step (placeSelector s f w) =
      .next (afterTick (placeSelector s f w) (sampledCtl (placeSelector s f w))) :=
    fun f => step_of_valid ((congrArg Config.valid (placeSelector_cfg s f w)).trans hv)
  unfold State.withFetchWord
  cases hf : formatOfBits nbits with
  | ctl4 =>
    rw [hf] at hsel
    obtain rfl := List.singleton_inj.1 hsel
    have hfmt := decodeCtl4_format (BitVec.ofNat 4 w)
    refine ⟨_, _, exec_decodeCtl4 _ _, hstep .ctl4, fun _ => rfl, ?_, ?_⟩ <;> rw [hfmt] <;> exact nofun
  | ser2 =>
    rw [hf] at hsel
    obtain rfl := List.singleton_inj.1 hsel
    have hfmt := decodeSer2_format (BitVec.ofNat 2 w)
    have hexec := exec_decodeSer2 (placeSelector s .ser2 w) (sampledCtl (placeSelector s .ser2 w))
    rw [serializerSelector_placeSelector hv] at hexec
    refine ⟨_, _, hexec, hstep .ser2, ?_, fun _ => rfl, ?_⟩ <;> rw [hfmt] <;> exact nofun
  | blk1 =>
    rw [hf] at hsel
    obtain rfl := List.singleton_inj.1 hsel
    have hfmt := decodeBlk1_format (BitVec.ofNat 1 w)
    have hexec := exec_decodeBlk1 (placeSelector s .blk1 w)
    rw [oscillatorSelector_placeSelector hv] at hexec
    refine ⟨_, _, hexec, hstep .blk1, ?_, ?_, fun _ => rfl⟩ <;> rw [hfmt] <;> exact nofun
  | uncond =>
    rw [hf] at hsel
    cases hsel

end Machine
end Sys2Proof
end

section
/-!
PROOFS. Addresses and tables (spec/20_memory.md R56, R58, R60): the Glyph Store address, the table of a caller's words, and the
canonical form, which the reads determine.
-/

namespace Sys2Proof

/-! ## What a listing reads as -/

namespace Machine

theorem lookupWord_of_not_listed {a : Nat} {cells : List (Nat × Nat)} (h : ∀ e ∈ cells, e.1 ≠ a) :
    lookupWord a cells = 0 := by
  induction cells with
  | nil => rfl
  | cons e rest ih =>
    obtain ⟨hne, hrest⟩ := List.forall_mem_cons.1 h
    rw [lookupWord, if_neg hne.symm, ih hrest]

theorem lookupWord_cons_same (a v : Nat) (rest : List (Nat × Nat)) : lookupWord a ((a, v) :: rest) = v := if_pos rfl

theorem lookupWord_cons_ne {a b : Nat} (h : a ≠ b) (v : Nat) (rest : List (Nat × Nat)) :
    lookupWord a ((b, v) :: rest) = lookupWord a rest := if_neg h

end Machine

open Machine

/-! ## Rising addresses -/

theorem risingFrom_cons_iff {lo a v : Nat} {rest : List (Nat × Nat)} :
    risingFrom lo ((a, v) :: rest) = true ↔ lo ≤ a ∧ risingFrom (a + 1) rest = true := by
  simp [risingFrom]

theorem le_of_mem_of_risingFrom {lo : Nat} {cells : List (Nat × Nat)} (h : risingFrom lo cells = true) :
    ∀ e ∈ cells, lo ≤ e.1 := by
  induction cells generalizing lo with
  | nil => exact nofun
  | cons e rest ih =>
    obtain ⟨hlo, hrest⟩ := risingFrom_cons_iff.1 h
    exact List.forall_mem_cons.2 ⟨hlo, fun e' he' => (Nat.le_succ_of_le hlo).trans (ih hrest e' he')⟩

/-- Below its first address a rising listing lists nothing. -/
theorem lookupWord_of_lt_of_risingFrom {lo a : Nat} {cells : List (Nat × Nat)} (h : risingFrom lo cells = true)
    (ha : a < lo) : lookupWord a cells = 0 :=
  lookupWord_of_not_listed fun e he => (ha.trans_le (le_of_mem_of_risingFrom h e he)).ne'

/-! ## The table of a caller's words -/

theorem listedFrom_cons_zero (k : Nat) (ws : List Nat) : listedFrom k (0 :: ws) = listedFrom (k + 1) ws := if_pos rfl

theorem listedFrom_cons_of_ne {w : Nat} (hw : w ≠ 0) (k : Nat) (ws : List Nat) :
    listedFrom k (w :: ws) = (k, w) :: listedFrom (k + 1) ws := if_neg hw

theorem risingFrom_listedFrom (ws : List Nat) {lo k : Nat} (h : lo ≤ k) : risingFrom lo (listedFrom k ws) = true := by
  induction ws generalizing lo k with
  | nil => rfl
  | cons w ws ih =>
    by_cases hw : w = 0
    · rw [hw, listedFrom_cons_zero]
      exact ih (Nat.le_succ_of_le h)
    · rw [listedFrom_cons_of_ne hw]
      exact risingFrom_cons_iff.2 ⟨h, ih le_rfl⟩

/-- A listed word is one of the words supplied, it is not 0, and its address is below the end. -/
theorem of_mem_listedFrom {ws : List Nat} {k : Nat} :
    ∀ e ∈ listedFrom k ws, e.1 < k + ws.length ∧ e.2 ≠ 0 ∧ e.2 ∈ ws := by
  induction ws generalizing k with
  | nil => exact nofun
  | cons w ws ih =>
    have htail : ∀ e ∈ listedFrom (k + 1) ws, e.1 < k + (w :: ws).length ∧ e.2 ≠ 0 ∧ e.2 ∈ w :: ws := by
      intro e he
      obtain ⟨haddr, hne, hmem⟩ := ih e he
      exact ⟨by rw [List.length_cons]; omega, hne, List.mem_cons_of_mem _ hmem⟩
    by_cases hw : w = 0
    · subst hw
      rw [listedFrom_cons_zero]
      exact htail
    · rw [listedFrom_cons_of_ne hw]
      exact List.forall_mem_cons.2 ⟨⟨by simp, hw, List.mem_cons_self⟩, htail⟩

theorem lookupWord_listedFrom (ws : List Nat) (k i : Nat) (h : i < ws.length) :
    lookupWord (k + i) (listedFrom k ws) = ws[i] := by
  induction ws generalizing k i with
  | nil => cases h
  | cons w ws ih =>
    have hbelow : lookupWord k (listedFrom (k + 1) ws) = 0 :=
      lookupWord_of_lt_of_risingFrom (risingFrom_listedFrom ws le_rfl) (Nat.lt_succ_self k)
    by_cases hw : w = 0
    · subst hw
      rw [listedFrom_cons_zero]
      cases i with
      | zero => exact hbelow
      | succ i =>
        rw [← Nat.succ_add_eq_add_succ]
        exact ih (k + 1) i (Nat.lt_of_succ_lt_succ h)
    · rw [listedFrom_cons_of_ne hw]
      cases i with
      | zero => exact lookupWord_cons_same k w _
      | succ i =>
        rw [lookupWord_cons_ne (by omega), ← Nat.succ_add_eq_add_succ]
        exact ih (k + 1) i (Nat.lt_of_succ_lt_succ h)

/-! ## The canonical form -/

theorem Table.wf_iff (t : Table) :
    t.wf = true ↔ risingFrom 0 t.cells = true ∧ ∀ e ∈ t.cells, e.1 < t.depth ∧ e.2 ≠ 0 ∧ e.2 < 2 ^ t.width := by
  simp only [Table.wf, Bool.and_eq_true, List.all_eq_true, decide_eq_true_eq, and_assoc]

/-- Two rising listings of words other than 0 that read alike are the same listing: their first addresses are equal, since each
reads as 0 below its first address, and so on. -/
theorem eq_of_lookupWord_eq {lo lo' : Nat} {cells cells' : List (Nat × Nat)} (hrise : risingFrom lo cells = true)
    (hrise' : risingFrom lo' cells' = true) (hne : ∀ e ∈ cells, e.2 ≠ 0) (hne' : ∀ e ∈ cells', e.2 ≠ 0)
    (hread : ∀ a, lookupWord a cells = lookupWord a cells') : cells = cells' := by
  induction cells generalizing cells' lo lo' with
  | nil =>
    cases cells' with
    | nil => rfl
    | cons e rest' =>
      have hzero := hread e.1
      rw [lookupWord_cons_same] at hzero
      exact absurd hzero.symm (List.forall_mem_cons.1 hne').1
  | cons e rest ih =>
    obtain ⟨a, v⟩ := e
    obtain ⟨hv, hrestne⟩ := List.forall_mem_cons.1 hne
    obtain ⟨-, hrest⟩ := risingFrom_cons_iff.1 hrise
    cases cells' with
    | nil =>
      have hzero := hread a
      rw [lookupWord_cons_same] at hzero
      exact absurd hzero hv
    | cons e' rest' =>
      obtain ⟨b, u⟩ := e'
      obtain ⟨hu, hrestne'⟩ := List.forall_mem_cons.1 hne'
      obtain ⟨-, hrest'⟩ := risingFrom_cons_iff.1 hrise'
      have hfrom : risingFrom a ((a, v) :: rest) = true := risingFrom_cons_iff.2 ⟨le_rfl, hrest⟩
      have hfrom' : risingFrom b ((b, u) :: rest') = true := risingFrom_cons_iff.2 ⟨le_rfl, hrest'⟩
      have hab : a = b := by
        rcases Nat.lt_trichotomy a b with hlt | heq | hgt
        · have hzero := hread a
          rw [lookupWord_cons_same, lookupWord_of_lt_of_risingFrom hfrom' hlt] at hzero
          exact absurd hzero hv
        · exact heq
        · have hzero := hread b
          rw [lookupWord_cons_same, lookupWord_of_lt_of_risingFrom hfrom hgt] at hzero
          exact absurd hzero.symm hu
      subst hab
      have hvu : v = u := by
        have hsame := hread a
        rwa [lookupWord_cons_same, lookupWord_cons_same] at hsame
      subst hvu
      have hreadrest : ∀ x, lookupWord x rest = lookupWord x rest' := by
        intro x
        by_cases hx : x = a
        · rw [hx, lookupWord_of_lt_of_risingFrom hrest (Nat.lt_succ_self a),
            lookupWord_of_lt_of_risingFrom hrest' (Nat.lt_succ_self a)]
        · have hsame := hread x
          rwa [lookupWord_cons_ne hx, lookupWord_cons_ne hx] at hsame
      rw [ih hrest hrest' hrestne hrestne' hreadrest]

theorem tableRead_of_depth_le {t : Table} (h : t.wf = true) {a : Nat} (ha : t.depth ≤ a) : tableRead t a = 0 :=
  lookupWord_of_not_listed fun e he => ((((Table.wf_iff t).1 h).2 e he).1.trans_le ha).ne

/-! ## The obligations -/

/-- Settles O52: a code is at most 255, so the address stays below 256 * GH; where GH is 2^k the row counter is its low k bits. -/
theorem glyphAddressInRange : Obligations.GlyphAddressInRange := by
  intro s hrow
  have hcode : s.fetch.charQ.toNat + 1 ≤ 256 := s.fetch.charQ.isLt
  have hrange : glyphAddress s < 256 * s.cfg.glyphHeight := by
    calc glyphAddress s < (s.fetch.charQ.toNat + 1) * s.cfg.glyphHeight := by rw [glyphAddress, Nat.succ_mul]; omega
      _ ≤ 256 * s.cfg.glyphHeight := Nat.mul_le_mul_right _ hcode
  have hwidth : 256 * s.cfg.glyphHeight ≤ 2 ^ s.cfg.wGaddr := by
    rw [Config.wGaddr, Nat.pow_add]
    exact Nat.mul_le_mul_left _ (le_two_pow_ceilLog2 _)
  refine ⟨hrange, hrange.trans_le hwidth, fun k hk => ?_⟩
  rw [glyphAddress, hk, ← Nat.shiftLeft_eq]
  exact Nat.shiftLeft_add_eq_or_of_lt (hk ▸ hrow) _

/-- Settles O53. -/
theorem tableReadsAsSupplied : Obligations.TableReadsAsSupplied := by
  refine fun width ws hws => ⟨(Table.holdsWords_iff _ _ _).2 ⟨rfl, rfl, (Table.wf_iff _).2 ?_⟩, fun a ha => ?_⟩
  · refine ⟨risingFrom_listedFrom ws le_rfl, fun e he => ?_⟩
    obtain ⟨haddr, hne, hmem⟩ := of_mem_listedFrom e he
    rw [Nat.zero_add] at haddr
    exact ⟨haddr, hne, hws _ hmem⟩
  · have hread := lookupWord_listedFrom ws 0 a ha
    rwa [Nat.zero_add] at hread

/-- Settles O54: beyond their common depth both tables list nothing, so they read alike everywhere. -/
theorem canonicalTablesAreDeterminedByReads : Obligations.CanonicalTablesAreDeterminedByReads := by
  intro t u ht hu hdepth hwidth hread
  obtain ⟨htrise, htlist⟩ := (Table.wf_iff t).1 ht
  obtain ⟨hurise, hulist⟩ := (Table.wf_iff u).1 hu
  have hall : ∀ a, lookupWord a t.cells = lookupWord a u.cells := by
    intro a
    rcases Nat.lt_or_ge a t.depth with hlt | hge
    · exact hread a hlt
    · exact (tableRead_of_depth_le ht hge).trans (tableRead_of_depth_le hu (hdepth ▸ hge)).symm
  have hcells : t.cells = u.cells :=
    eq_of_lookupWord_eq htrise hurise (fun e he => (htlist e he).2.1) (fun e he => (hulist e he).2.1) hall
  obtain ⟨d, w, cells⟩ := t
  obtain ⟨d', w', cells'⟩ := u
  rw [Table.mk.injEq]
  exact ⟨hdepth, hwidth, hcells⟩

end Sys2Proof
end

section
/-!
PROOFS. The timing contract as propositions (spec/70_reset_and_hazards.md R200), the frame of the input streams' items
(spec/30_encoding.md R93) and the count of active ticks (R209).
-/

namespace Sys2Proof.Machine

/-! ## The parts of the contract -/

theorem settles_iff (ws : List Ctl) :
    settles ws = true ↔
      3 ≤ ws.length ∧ ws.all isHold = true ∧ ∃ w, ws.getLast? = some w ∧ horizontalEnable w = false := by
  cases hlast : ws.getLast? with
  | none => simp [settles, hlast]
  | some w => simp [settles, hlast, and_assoc]

theorem LineStream.holds_iff (l : LineStream) :
    l.holds = true ↔ l.front.all isHold = true ∧ isLineAdvance l.strobe = true ∧ l.back.all isHold = true := by
  simp only [LineStream.holds, Bool.and_eq_true, and_assoc]

theorem LineStream.conforms_iff (l : LineStream) : l.conforms = true ↔ l.holds = true ∧ settles l.back = true := by
  simp only [LineStream.conforms, Bool.and_eq_true]

theorem FrameStream.conforms_iff (c : Config) (f : FrameStream) :
    f.conforms c = true ↔
      f.resets.all isFrameReset = true ∧ settles f.pre = true ∧ f.lines.length = c.activeHeight ∧
      f.lines.all LineStream.holds = true ∧ f.lines.dropLast.all LineStream.conforms = true ∧
      f.post.all isHold = true := by
  simp only [FrameStream.conforms, Bool.and_eq_true, decide_eq_true_eq, and_assoc]

@[simp] theorem lineWords_nil (c : Config) : lineWords c [] = [] := rfl

@[simp] theorem lineWords_cons (c : Config) (l : LineStream) (ls : List LineStream) :
    lineWords c (l :: ls) = l.words c ++ lineWords c ls := List.flatMap_cons

@[simp] theorem lineWords_append (c : Config) (ls ls' : List LineStream) :
    lineWords c (ls ++ ls') = lineWords c ls ++ lineWords c ls' := List.flatMap_append

/-! ## The frame that LINE and FRAME write (spec/30_encoding.md R93) -/

/-- `LINE(fp, bp)` as a line of the contract. -/
def stimulusLineStream (fp bp : Nat) : LineStream :=
  { front := StimulusItem.hbl.times fp, strobe := StimulusItem.hs.word, back := StimulusItem.hbl.times bp }

/-- `FRAME(vpre, fp, bp, vpost)` as a frame of the contract. -/
def stimulusFrameStream (c : Config) (vpre fp bp vpost : Nat) : FrameStream :=
  { resets := StimulusItem.vs.times 1, pre := StimulusItem.vbl.times vpre,
    lines := List.replicate c.activeHeight (stimulusLineStream fp bp), post := StimulusItem.vbl.times vpost }

theorem all_times {p : Ctl → Bool} {i : StimulusItem} (h : p i.word = true) (n : Nat) : (i.times n).all p = true :=
  List.all_eq_true.2 fun _ hw => (List.eq_of_mem_replicate hw).symm ▸ h

/-- Three or more ticks of one HOLD word without `horizontal_enable` settle. -/
theorem settles_times {i : StimulusItem} (hhold : isHold i.word = true) (henable : horizontalEnable i.word = false)
    {n : Nat} (hn : 3 ≤ n) : settles (i.times n) = true := by
  refine (settles_iff _).2 ⟨by rwa [StimulusItem.times, List.length_replicate], all_times hhold n, i.word, ?_, henable⟩
  rw [StimulusItem.times, List.getLast?_replicate, if_neg (by omega)]

theorem stimulusLineStream_words (c : Config) (fp bp : Nat) :
    (stimulusLineStream fp bp).words c = stimulusLine c fp bp := by
  simp [stimulusLineStream, LineStream.words, stimulusLine, StimulusItem.times, StimulusItem.word]

theorem stimulusFrameStream_words (c : Config) (vpre fp bp vpost : Nat) :
    (stimulusFrameStream c vpre fp bp vpost).words c = stimulusFrame c vpre fp bp vpost := by
  simp [stimulusFrameStream, FrameStream.words, stimulusFrame, lineWords, repeatStream, List.flatMap,
    stimulusLineStream_words]

theorem stimulusLineStream_holds (fp bp : Nat) : (stimulusLineStream fp bp).holds = true := by
  have hstrobe : isLineAdvance StimulusItem.hs.word = true := by decide
  exact (LineStream.holds_iff _).2 ⟨all_times (by decide) fp, hstrobe, all_times (by decide) bp⟩

theorem stimulusLineStream_conforms (fp : Nat) {bp : Nat} (hbp : 3 ≤ bp) : (stimulusLineStream fp bp).conforms = true :=
  (LineStream.conforms_iff _).2 ⟨stimulusLineStream_holds fp bp, settles_times (by decide) (by decide) hbp⟩

/-- Settles O49: every line that LINE writes is the same conforming line. -/
theorem stimulusFrameConforms : Obligations.StimulusFrameConforms := by
  intro c vpre fp bp vpost hvpre hbp
  have hresets : (stimulusFrameStream c vpre fp bp vpost).resets ≠ [] := List.cons_ne_nil _ _
  refine ⟨stimulusFrameStream c vpre fp bp vpost, stimulusFrameStream_words c vpre fp bp vpost, ?_, hresets⟩
  refine (FrameStream.conforms_iff _ _).2 ⟨all_times (by decide) 1, settles_times (by decide) (by decide) hvpre,
    List.length_replicate, List.all_eq_true.2 fun l hl => ?_, List.all_eq_true.2 fun l hl => ?_, all_times (by decide) vpost⟩
  · rw [List.eq_of_mem_replicate hl]
    exact stimulusLineStream_holds fp bp
  · rw [List.eq_of_mem_replicate (List.mem_of_mem_dropLast hl)]
    exact stimulusLineStream_conforms fp hbp

/-! ## The count of active ticks (spec/70_reset_and_hazards.md R209) -/

/-- The tick of the control word is active: it performs PIXEL_ADVANCE. -/
def isActive (w : Ctl) : Bool := decide (decodeCtl4 w = .pixelAdvance)

/-- No tick of a class other than PIXEL_ADVANCE is active. -/
theorem countP_isActive_eq_zero {p : Ctl → Bool} (hp : ∀ w, p w = true → isActive w = false) {ws : List Ctl}
    (h : ws.all p = true) : ws.countP isActive = 0 :=
  List.countP_eq_zero.2 fun w hw => Bool.eq_false_iff.1 (hp w (List.all_eq_true.1 h w hw))

theorem isActive_of_isHold : ∀ w : Ctl, isHold w = true → isActive w = false := by decide

theorem isActive_of_isFrameReset : ∀ w : Ctl, isFrameReset w = true → isActive w = false := by decide

theorem isActive_of_isLineAdvance : ∀ w : Ctl, isLineAdvance w = true → isActive w = false := by decide

theorem LineStream.countP_isActive_words (c : Config) {l : LineStream} (h : l.holds = true) :
    (l.words c).countP isActive = c.activeWidth := by
  obtain ⟨hfront, hstrobe, hback⟩ := l.holds_iff.1 h
  have hpix : isActive 0x5#4 = true := by decide
  rw [LineStream.words, List.countP_append, List.countP_append, List.countP_cons, List.countP_replicate, if_pos hpix,
    countP_isActive_eq_zero isActive_of_isHold hfront, countP_isActive_eq_zero isActive_of_isHold hback,
    isActive_of_isLineAdvance _ hstrobe]
  rfl

theorem countP_isActive_lineWords (c : Config) {ls : List LineStream} (h : ls.all LineStream.holds = true) :
    (lineWords c ls).countP isActive = c.activeWidth * ls.length := by
  induction ls with
  | nil => rfl
  | cons l ls ih =>
    obtain ⟨hl, hls⟩ := Bool.and_eq_true_iff.1 h
    rw [lineWords_cons, List.countP_append, l.countP_isActive_words c hl, ih hls, List.length_cons, Nat.mul_succ,
      Nat.add_comm]

/-- Settles O50: only the AW ticks that begin each of the AH lines are active. -/
theorem frameHasEveryActiveTick : Obligations.FrameHasEveryActiveTick := by
  intro c f hf
  obtain ⟨hresets, hpre, hlength, hlines, -, hpost⟩ := (f.conforms_iff c).1 hf
  obtain ⟨-, hprehold, -⟩ := (settles_iff _).1 hpre
  change (f.words c).countP isActive = _
  rw [FrameStream.words, List.countP_append, List.countP_append, List.countP_append,
    countP_isActive_eq_zero isActive_of_isFrameReset hresets, countP_isActive_eq_zero isActive_of_isHold hprehold,
    countP_isActive_eq_zero isActive_of_isHold hpost, countP_isActive_lineWords c hlines, hlength]
  omega

end Sys2Proof.Machine
end

section
/-!
PROOFS. Runs: every number of ticks is an iterate of the one next state (spec/45_tick_composition.md R163), the tables stand
(spec/20_memory.md R63), the blink phase has a closed form (spec/43_blink_oscillator.md R142, R143), and what a run depends on
(spec/45_tick_composition.md R164, spec/70_reset_and_hazards.md R193, R194).
-/

namespace Sys2Proof.Machine

/-! ## A run as an iterate -/

/-- The state after the tick that the state finds: its own control word sampled. -/
def nextState (s : State) : State := afterTick s (sampledCtl s)

@[simp] theorem nextState_cfg (s : State) : (nextState s).cfg = s.cfg := rfl
@[simp] theorem nextState_scan (s : State) : (nextState s).scan = scanAfter s (sampledCtl s) := rfl
@[simp] theorem nextState_fetch (s : State) : (nextState s).fetch = fetchAfter s := rfl
@[simp] theorem nextState_latch (s : State) : (nextState s).latch = latchAfter s (sampledCtl s) := rfl
@[simp] theorem nextState_blink (s : State) : (nextState s).blink = blinkAfter s := rfl
@[simp] theorem nextState_inputs (s : State) : (nextState s).inputs = s.inputs.tail := rfl
@[simp] theorem nextState_out (s : State) : (nextState s).out = composedOutputs s := rfl
@[simp] theorem nextState_tick (s : State) : (nextState s).tick = s.tick + 1 := rfl

theorem step_eq_nextState {s : State} (h : s.cfg.valid = true) : step s = .next (nextState s) := step_of_valid h

theorem iterate_succ (k : Nat) (s : State) : nextState^[k + 1] s = nextState (nextState^[k] s) :=
  Function.iterate_succ_apply' nextState k s

@[simp] theorem iterate_cfg (k : Nat) (s : State) : (nextState^[k] s).cfg = s.cfg := by
  induction k with
  | zero => rfl
  | succ k ih => rw [iterate_succ, nextState_cfg, ih]

theorem iterate_inputs (k : Nat) (s : State) : (nextState^[k] s).inputs = s.inputs.drop k := by
  induction k with
  | zero => rfl
  | succ k ih => rw [iterate_succ, nextState_inputs, ih, List.tail_drop]

theorem iterate_tick (k : Nat) (s : State) : (nextState^[k] s).tick = s.tick + k := by
  induction k with
  | zero => rfl
  | succ k ih => rw [iterate_succ, nextState_tick, ih, Nat.add_assoc]

theorem runTicks_of_valid {s : State} (h : s.cfg.valid = true) (k : Nat) : runTicks k s = .next (nextState^[k] s) := by
  induction k generalizing s with
  | zero => rfl
  | succ k ih => exact (runTicks_succ_of_valid h k).trans (ih h)

/-- What a run that answers can do, said once; its configuration may be invalid only where no tick is run. -/
theorem runTicks_eq_next {k : Nat} {s t : State} (h : runTicks k s = .next t) : t = nextState^[k] s := by
  induction k generalizing s with
  | zero => exact (Host.Outcome.next.inj h).symm
  | succ k ih =>
    obtain ⟨u, hu, ht⟩ := andThen_eq_next.1 h
    obtain ⟨-, rfl⟩ := step_eq_next hu
    exact ih ht

theorem step_iterate {s : State} (h : s.cfg.valid = true) (k : Nat) :
    step (nextState^[k] s) = .next (nextState^[k + 1] s) := by
  rw [iterate_succ, step_eq_nextState ((congrArg Config.valid (iterate_cfg k s)).trans h)]

/-- Settles O25: of a valid configuration every run is an iterate of `nextState`. -/
theorem everyTickCompletes : Obligations.EveryTickCompletes :=
  fun k s h => ⟨_, runTicks_of_valid h k, iterate_inputs k s, iterate_tick k s⟩

/-- Settles O36: a run keeps the configuration, and a read in range is a function of it. -/
theorem runsNeverChangeTables : Obligations.RunsNeverChangeTables := by
  intro k s t ht
  have hcfg : t.cfg = s.cfg := by rw [runTicks_eq_next ht, iterate_cfg]
  refine ⟨hcfg, fun sp a ha => ?_⟩
  have ht : a < sp.depth t.cfg := hcfg.symm ▸ ha
  rw [memRead_of_lt ha, memRead_of_lt ht, hcfg]

/-! ## The blink phase (spec/43_blink_oscillator.md R142, R143) -/

theorem succ_mod_eq (n : Nat) {m : Nat} (hm : 1 ≤ m) : (n + 1) % m = if n % m = m - 1 then 0 else n % m + 1 := by
  have hlt : n % m < m := Nat.mod_lt n hm
  rw [← Nat.mod_add_mod]
  split
  case isTrue h => rw [h, Nat.sub_add_cancel hm, Nat.mod_self]
  case isFalse h => exact Nat.mod_eq_of_lt (by omega)

theorem dvd_succ_iff_mod_eq (n : Nat) {m : Nat} (hm : 1 ≤ m) : m ∣ n + 1 ↔ n % m = m - 1 := by
  rw [Nat.dvd_iff_mod_eq_zero, succ_mod_eq n hm]
  split <;> simp_all

/-- The Blink State n ticks after one with counter 0 and the given phase (R142). -/
def blinkAt (p n : Nat) (phase : Bool) : Blink :=
  { blinkCounter := n % p, blinkPhase := xor phase (decide ((n / p) % 2 = 1)) }

theorem blinkAt_succ {p : Nat} (hp : 1 ≤ p) (n : Nat) (phase : Bool) :
    blinkAt p (n + 1) phase =
      if n % p = p - 1 then { blinkCounter := 0, blinkPhase := !(blinkAt p n phase).blinkPhase }
      else { blinkCounter := n % p + 1, blinkPhase := (blinkAt p n phase).blinkPhase } := by
  unfold blinkAt
  rw [succ_mod_eq n hp, Nat.succ_div]
  simp only [dvd_succ_iff_mod_eq n hp]
  split
  · have hparity : decide ((n / p + 1) % 2 = 1) = !decide ((n / p) % 2 = 1) := by
      rw [← decide_not, decide_eq_decide]
      omega
    rw [hparity, Bool.xor_not]
  · rfl

theorem iterate_blink {s : State} (hp : s.blink.blinkCounter < s.cfg.blinkHalfPeriod) (k : Nat) :
    (nextState^[k] s).blink = blinkAt s.cfg.blinkHalfPeriod (s.blink.blinkCounter + k) s.blink.blinkPhase := by
  have hpos : 1 ≤ s.cfg.blinkHalfPeriod := Nat.one_le_of_lt hp
  induction k with
  | zero => simp [blinkAt, Nat.mod_eq_of_lt hp, Nat.div_eq_of_lt hp]
  | succ k ih =>
    have hrange : (nextState^[k] s).blink.blinkCounter < (nextState^[k] s).cfg.blinkHalfPeriod := by
      rw [ih, iterate_cfg]
      exact Nat.mod_lt _ hpos
    rw [iterate_succ, nextState_blink, blinkAfter_of_in_range hrange, iterate_cfg, ih, ← Nat.add_assoc, blinkAt_succ hpos]
    rfl

/-- Settles O43: the counter and the toggles together count the ticks from the last toggle. -/
theorem blinkClosedForm : Obligations.BlinkClosedForm :=
  fun k _ hv hp => ⟨_, runTicks_of_valid hv k, iterate_blink hp k⟩

/-! ## What each register group's next value depends on -/

section congruence

variable {s s' : State}

theorem sampledCtl_congr (hinputs : s'.inputs = s.inputs) (htick : s'.tick = s.tick) : sampledCtl s' = sampledCtl s := by
  simp only [sampledCtl, hinputs, htick]

theorem colZero_congr (hcol : s'.scan.columnInGlyph = s.scan.columnInGlyph) : colZero s' = colZero s := by
  rw [colZero, colZero, hcol]

theorem colLast_congr (hcfg : s'.cfg = s.cfg) (hcol : s'.scan.columnInGlyph = s.scan.columnInGlyph) :
    colLast s' = colLast s := by
  rw [colLast, colLast, hcfg, hcol]

theorem rowLast_congr (hcfg : s'.cfg = s.cfg) (hrow : s'.scan.rowInGlyph = s.scan.rowInGlyph) :
    rowLast s' = rowLast s := by
  rw [rowLast, rowLast, hcfg, hrow]

theorem blinkLast_congr (hcfg : s'.cfg = s.cfg) (hblink : s'.blink = s.blink) : blinkLast s' = blinkLast s := by
  rw [blinkLast, blinkLast, hcfg, hblink]

theorem scanAfter_congr (hcfg : s'.cfg = s.cfg) (hscan : s'.scan = s.scan) (w : Ctl) : scanAfter s' w = scanAfter s w := by
  have hcol := congrArg Scan.columnInGlyph hscan
  have hrow := congrArg Scan.rowInGlyph hscan
  simp only [scanAfter, lineAdvanceScan, pixelAdvanceScan, rowLast_congr hcfg hrow, colZero_congr hcol,
    colLast_congr hcfg hcol, hcfg, hscan]

theorem blinkAfter_congr (hcfg : s'.cfg = s.cfg) (hblink : s'.blink = s.blink) : blinkAfter s' = blinkAfter s := by
  simp only [blinkAfter, blinkLast_congr hcfg hblink, hcfg, hblink]

theorem composedOutputs_congr (hlatch : s'.latch = s.latch) (hblink : s'.blink = s.blink) :
    composedOutputs s' = composedOutputs s := by
  simp only [composedOutputs, currentPixel, hlatch, hblink]

/-- The serializer reads the column and the row counter, the fetched data, and its own registers; of the control word
`horizontal_enable` only. -/
theorem latchAfter_congr {w w' : Ctl} (hcfg : s'.cfg = s.cfg) (hcol : s'.scan.columnInGlyph = s.scan.columnInGlyph)
    (hrow : s'.scan.rowInGlyph = s.scan.rowInGlyph) (hattr : s'.fetch.attrQ = s.fetch.attrQ)
    (hglyph : s'.fetch.glyphQ = s.fetch.glyphQ) (hlatch : s'.latch = s.latch)
    (henable : horizontalEnable w' = horizontalEnable w) : latchAfter s' w' = latchAfter s w := by
  simp only [latchAfter, latchedRow, colLast_congr hcfg hcol, rowLast_congr hcfg hrow, hcfg, hattr, hglyph, hlatch,
    henable]

theorem fetchAfter_cell_congr (hcfg : s'.cfg = s.cfg) (htick : s'.tick = s.tick)
    (hcell : s'.scan.cellIndex = s.scan.cellIndex) :
    (fetchAfter s').charQ = (fetchAfter s).charQ ∧ (fetchAfter s').attrQ = (fetchAfter s).attrQ := by
  simp only [fetchAfter, cellAddress, hcell, memRead_congr hcfg htick, and_self]

theorem fetchAfter_glyph_congr (hcfg : s'.cfg = s.cfg) (htick : s'.tick = s.tick) (hcode : s'.fetch.charQ = s.fetch.charQ)
    (hrow : s'.scan.rowInGlyph = s.scan.rowInGlyph) : (fetchAfter s').glyphQ = (fetchAfter s).glyphQ := by
  simp only [fetchAfter, glyphAddress, hcfg, hcode, hrow, memRead_congr hcfg htick]

end congruence

/-! ## Noninterference of the Blink State and of the inputs (spec/43_blink_oscillator.md R143, R164) -/

theorem iterate_blink_congr {s s' : State} (hcfg : s'.cfg = s.cfg) (hblink : s'.blink = s.blink) (k : Nat) :
    (nextState^[k] s').blink = (nextState^[k] s).blink := by
  induction k with
  | zero => exact hblink
  | succ k ih =>
    rw [iterate_succ, iterate_succ]
    exact blinkAfter_congr (by rw [iterate_cfg, iterate_cfg, hcfg]) ih

/-- Settles O44. -/
theorem blinkDependsOnItselfOnly : Obligations.BlinkDependsOnItselfOnly := by
  intro k s s' hv hcfg hblink
  have hv' : s'.cfg.valid = true := hcfg.symm ▸ hv
  exact ⟨_, _, runTicks_of_valid hv k, runTicks_of_valid hv' k, iterate_blink_congr hcfg hblink k⟩

/-- Settles O45: the outputs are composed of registers, and of the inputs the Render Latch sees `horizontal_enable`. -/
theorem outputsIgnoreCurrentInputs : Obligations.OutputsIgnoreCurrentInputs := by
  intro s ws hv
  have hstep : step { s with inputs := ws } = .next (nextState { s with inputs := ws }) := step_eq_nextState hv
  refine ⟨⟨_, _, step_eq_nextState hv, hstep, rfl⟩, fun henable => ?_⟩
  have hlatch : (nextState { s with inputs := ws }).latch = (nextState s).latch :=
    latchAfter_congr rfl rfl rfl rfl rfl rfl henable
  have hnext : step (nextState s) = .next (nextState (nextState s)) := step_eq_nextState hv
  have hnext' : step (nextState { s with inputs := ws }) = .next (nextState (nextState { s with inputs := ws })) :=
    step_eq_nextState hv
  exact ⟨_, _, _, _, step_eq_nextState hv, hstep, hlatch, hnext, hnext', composedOutputs_congr hlatch rfl⟩

/-! ## The distance from the cell address to the outputs (spec/70_reset_and_hazards.md R194) -/

/-- The two engines differ at most in `cell_index` and `row_start`, and in `char_q` and `attr_q`: what a difference of the former
reaches within a tick. The recorded outputs are left out. -/
structure DifferInCellOnly (s s' : State) : Prop where
  cfg : s'.cfg = s.cfg
  column : s'.scan.columnInGlyph = s.scan.columnInGlyph
  row : s'.scan.rowInGlyph = s.scan.rowInGlyph
  glyph : s'.fetch.glyphQ = s.fetch.glyphQ
  latch : s'.latch = s.latch
  blink : s'.blink = s.blink
  inputs : s'.inputs = s.inputs
  tick : s'.tick = s.tick

theorem scanAfter_counters_congr {s s' : State} (hcfg : s'.cfg = s.cfg)
    (hcol : s'.scan.columnInGlyph = s.scan.columnInGlyph) (hrow : s'.scan.rowInGlyph = s.scan.rowInGlyph) (w : Ctl) :
    (scanAfter s' w).columnInGlyph = (scanAfter s w).columnInGlyph ∧
      (scanAfter s' w).rowInGlyph = (scanAfter s w).rowInGlyph := by
  simp only [scanAfter, lineAdvanceScan, pixelAdvanceScan, rowLast_congr hcfg hrow, colLast_congr hcfg hcol, hcfg, hcol,
    hrow, apply_ite Scan.columnInGlyph, apply_ite Scan.rowInGlyph, ite_self, and_self]

/-- With equal codes and attributes the next difference is again in the cell and in what was read at it. -/
theorem DifferInCellOnly.next {s s' : State} (h : DifferInCellOnly s s') (hcode : s'.fetch.charQ = s.fetch.charQ)
    (hattr : s'.fetch.attrQ = s.fetch.attrQ) : DifferInCellOnly (nextState s) (nextState s') := by
  have hctl : sampledCtl s' = sampledCtl s := sampledCtl_congr h.inputs h.tick
  obtain ⟨hcol, hrow⟩ := scanAfter_counters_congr h.cfg h.column h.row (sampledCtl s)
  exact
    { cfg := h.cfg
      column := by rw [nextState_scan, nextState_scan, hctl, hcol]
      row := by rw [nextState_scan, nextState_scan, hctl, hrow]
      glyph := fetchAfter_glyph_congr h.cfg h.tick hcode h.row
      latch := latchAfter_congr h.cfg h.column h.row hattr h.glyph h.latch (by rw [hctl])
      blink := blinkAfter_congr h.cfg h.blink
      inputs := by rw [nextState_inputs, nextState_inputs, h.inputs]
      tick := by rw [nextState_tick, nextState_tick, h.tick] }

/-- Whatever the attributes, the next pixels and underline flag are equal. -/
theorem DifferInCellOnly.next_pixels {s s' : State} (h : DifferInCellOnly s s') :
    (nextState s').out = (nextState s).out ∧
      (nextState s').latch.shiftRegister = (nextState s).latch.shiftRegister ∧
      (nextState s').latch.underlineActive = (nextState s).latch.underlineActive := by
  have hctl : sampledCtl s' = sampledCtl s := sampledCtl_congr h.inputs h.tick
  refine ⟨composedOutputs_congr h.latch h.blink, ?_⟩
  simp only [nextState_latch, latchAfter, latchedRow, colLast_congr h.cfg h.column, rowLast_congr h.cfg h.row, hctl, h.cfg,
    h.glyph, h.latch, apply_ite RenderLatch.shiftRegister, apply_ite RenderLatch.underlineActive, and_self]

/-- Settles O46: the address differs in tick 0, what is read at it in tick 1, and what is latched of it in tick 2. -/
theorem cellIndexReachesOutputsLate : Obligations.CellIndexReachesOutputsLate := by
  intro s a b k hv hk
  let s' : State := { s with scan := { s.scan with cellIndex := a, rowStart := b } }
  have hdiffer : DifferInCellOnly s s' := ⟨rfl, rfl, rfl, rfl, rfl, rfl, rfl, rfl⟩
  have hdiffer1 : DifferInCellOnly (nextState s) (nextState s') := hdiffer.next rfl rfl
  refine ⟨_, _, runTicks_of_valid hv k, runTicks_of_valid (s := s') hv k, ?_⟩
  match k, hk with
  | 0, _ => exact ⟨rfl, rfl, rfl, fun _ => rfl⟩
  | 1, _ =>
    obtain ⟨hout, hshift, hunderline⟩ := hdiffer.next_pixels
    exact ⟨hout, hshift, hunderline, fun _ => congrArg RenderLatch.latchedAttribute hdiffer1.latch⟩
  | 2, _ =>
    obtain ⟨hout, hshift, hunderline⟩ := hdiffer1.next_pixels
    exact ⟨hout, hshift, hunderline, fun h => absurd h (by decide)⟩

/-! ## Forgetting the power-on values (spec/70_reset_and_hazards.md R193) -/

/-- The two engines agree on the configuration, the Scan State, the input stream and the tick's number. -/
structure AgreeOnScan (s s' : State) : Prop where
  cfg : s'.cfg = s.cfg
  scan : s'.scan = s.scan
  inputs : s'.inputs = s.inputs
  tick : s'.tick = s.tick

theorem fetch_eq_of_registers {f f' : Fetch} (hcode : f'.charQ = f.charQ) (hattr : f'.attrQ = f.attrQ)
    (hglyph : f'.glyphQ = f.glyphQ) : f' = f := by
  cases f
  cases f'
  cases hcode
  cases hattr
  cases hglyph
  rfl

/-- The tick's selector selects LATCH, in either pattern. -/
def Latches (s : State) : Prop :=
  (∃ c, decodeSer2 (serializerSelector s (sampledCtl s)) = .latchB c) ∨
    decodeSer2 (serializerSelector s (sampledCtl s)) = .latchC

theorem Latches.latchAfter_eq {s : State} (hlatch : Latches s) : latchAfter s (sampledCtl s) = latchedRow s := by
  have hexec := exec_decodeSer2 s (sampledCtl s)
  rcases hlatch with ⟨c, hc⟩ | hc
  · rw [hc, exec_latchB] at hexec
    exact congrArg State.latch (Host.Outcome.next.inj hexec).symm
  · rw [hc, exec_latchC] at hexec
    exact congrArg State.latch (Host.Outcome.next.inj hexec).symm

section forgetting

variable {s s' : State} (h : AgreeOnScan s s')
include h

theorem AgreeOnScan.sampledCtl_eq : sampledCtl s' = sampledCtl s := sampledCtl_congr h.inputs h.tick

theorem AgreeOnScan.next : AgreeOnScan (nextState s) (nextState s') where
  cfg := h.cfg
  scan := by rw [nextState_scan, nextState_scan, h.sampledCtl_eq, scanAfter_congr h.cfg h.scan]
  inputs := by rw [nextState_inputs, nextState_inputs, h.inputs]
  tick := by rw [nextState_tick, nextState_tick, h.tick]

theorem AgreeOnScan.iterate (k : Nat) : AgreeOnScan (nextState^[k] s) (nextState^[k] s') := by
  induction k with
  | zero => exact h
  | succ k ih =>
    rw [iterate_succ, iterate_succ]
    exact ih.next

/-- One tick makes the codes and attributes agree. -/
theorem AgreeOnScan.cell_succ (k : Nat) :
    (nextState^[k + 1] s').fetch.charQ = (nextState^[k + 1] s).fetch.charQ ∧
      (nextState^[k + 1] s').fetch.attrQ = (nextState^[k + 1] s).fetch.attrQ := by
  have hk := h.iterate k
  rw [iterate_succ, iterate_succ]
  exact fetchAfter_cell_congr hk.cfg hk.tick (by rw [hk.scan])

/-- Two ticks make the glyph rows agree. -/
theorem AgreeOnScan.fetch_succ_succ (k : Nat) : (nextState^[k + 2] s').fetch = (nextState^[k + 2] s).fetch := by
  have hk := h.iterate (k + 1)
  obtain ⟨hcode, hattr⟩ := h.cell_succ (k + 1)
  have hglyph : (nextState^[k + 2] s').fetch.glyphQ = (nextState^[k + 2] s).fetch.glyphQ := by
    rw [iterate_succ (k + 1), iterate_succ (k + 1)]
    exact fetchAfter_glyph_congr hk.cfg hk.tick (h.cell_succ k).1 (by rw [hk.scan])
  exact fetch_eq_of_registers hcode hattr hglyph

/-- The serializer's selector, and with equal fetched data the row it loads, agree. -/
theorem AgreeOnScan.latch_of_latch (hfetch : s'.fetch = s.fetch) (hlatch : Latches s) :
    (nextState s').latch = (nextState s).latch := by
  have hcol := congrArg Scan.columnInGlyph h.scan
  have hrow := congrArg Scan.rowInGlyph h.scan
  have hselector : serializerSelector s' (sampledCtl s') = serializerSelector s (sampledCtl s) := by
    rw [serializerSelector, serializerSelector, h.sampledCtl_eq, colLast_congr h.cfg hcol]
  have hlatch' : Latches s' := by rwa [Latches, hselector]
  rw [nextState_latch, nextState_latch, hlatch.latchAfter_eq, hlatch'.latchAfter_eq]
  simp only [latchedRow, rowLast_congr h.cfg hrow, h.cfg, hfetch]

/-- Once equal, with equal fetched data, the Render Latches stay equal. -/
theorem AgreeOnScan.latch_next (hfetch : s'.fetch = s.fetch) (hlatch : s'.latch = s.latch) :
    (nextState s').latch = (nextState s).latch :=
  latchAfter_congr h.cfg (by rw [h.scan]) (by rw [h.scan]) (by rw [hfetch]) (by rw [hfetch]) hlatch
    (by rw [h.sampledCtl_eq])

/-- A LATCH in tick u + 2 makes the Render Latches agree from then on. -/
theorem AgreeOnScan.latch_forever {u : Nat} (hlatch : Latches (nextState^[u + 2] s)) (d : Nat) :
    (nextState^[u + 3 + d] s').latch = (nextState^[u + 3 + d] s).latch := by
  induction d with
  | zero =>
    rw [Nat.add_zero, iterate_succ (u + 2), iterate_succ (u + 2)]
    exact (h.iterate (u + 2)).latch_of_latch (h.fetch_succ_succ u) hlatch
  | succ d ih =>
    rw [← Nat.add_assoc, iterate_succ, iterate_succ]
    refine (h.iterate (u + 3 + d)).latch_next ?_ ih
    have hticks : u + 3 + d = u + 1 + d + 2 := by omega
    rw [hticks]
    exact h.fetch_succ_succ (u + 1 + d)

end forgetting

/-- Settles O47: each stage of the pipeline is filled from the one before, and a LATCH writes the whole Render Latch. -/
theorem powerOnValuesAreForgotten : Obligations.PowerOnValuesAreForgotten := by
  intro k s s' hv hcfg hscan hinputs htick
  have h : AgreeOnScan s s' := ⟨hcfg, hscan, hinputs, htick⟩
  have hv' : s'.cfg.valid = true := hcfg.symm ▸ hv
  refine ⟨_, _, runTicks_of_valid hv k, runTicks_of_valid hv' k, (h.iterate k).scan, fun hk => ?_, fun hk => ?_, ?_⟩
  · obtain ⟨n, rfl⟩ := Nat.exists_eq_add_of_le' hk
    exact h.cell_succ n
  · obtain ⟨n, rfl⟩ := Nat.exists_eq_add_of_le' hk
    rw [h.fetch_succ_succ n]
  · intro u v hu huk hrun hlatch
    obtain rfl := runTicks_eq_next hrun
    obtain ⟨n, rfl⟩ := Nat.exists_eq_add_of_le' hu
    obtain ⟨d, rfl⟩ := Nat.exists_eq_add_of_le (Nat.succ_le_of_lt huk)
    exact h.latch_forever hlatch d

end Sys2Proof.Machine
end

section
/-!
PROOFS. Trajectories of the Scan State (spec/40_scan_tracker.md R106 to R111, spec/10_state.md R34): the tracker reads the
configuration, the Scan State and the control word only, so a run over queued words is a fold over them; what a run of words of
one class does, then a line, a character row, a frame and a stream.
-/

namespace Sys2Proof

/-! ## Cells and rows of a valid configuration (spec/00_scope.md R7) -/

theorem Config.activeWidth_eq {c : Config} (h : c.valid = true) : c.activeWidth = c.cellsPerRow * c.glyphWidth := by
  obtain ⟨hmod, -⟩ := (Config.valid_iff c).1 h
  exact (Nat.div_mul_cancel (Nat.dvd_of_mod_eq_zero hmod)).symm

theorem Config.activeHeight_eq {c : Config} (h : c.valid = true) : c.activeHeight = c.rows * c.glyphHeight := by
  obtain ⟨-, hmod, -⟩ := (Config.valid_iff c).1 h
  exact (Nat.div_mul_cancel (Nat.dvd_of_mod_eq_zero hmod)).symm

/-- ceil(x / GW) reaches CPR at the end of a line. -/
theorem Config.ceilDiv_le {c : Config} (h : c.valid = true) {x : Nat} (hx : x ≤ c.activeWidth) :
    (x + c.glyphWidth - 1) / c.glyphWidth ≤ c.cellsPerRow := by
  obtain ⟨hgw, -, -⟩ := Config.valid_bounds h
  rw [Config.activeWidth_eq h] at hx
  rw [← Nat.lt_succ_iff, Nat.div_lt_iff_lt_mul (by omega), Nat.succ_mul]
  omega

theorem Config.ceilDiv_activeWidth {c : Config} (h : c.valid = true) :
    (c.activeWidth + c.glyphWidth - 1) / c.glyphWidth = c.cellsPerRow := by
  obtain ⟨hgw, -, -⟩ := Config.valid_bounds h
  refine Nat.le_antisymm (Config.ceilDiv_le h le_rfl) ?_
  rw [Nat.le_div_iff_mul_le (by omega), ← Config.activeWidth_eq h]
  omega

/-- The character rows of a frame are below N. -/
theorem Config.row_end_le_totalCells {c : Config} (hv : c.valid = true) {y : Nat} (hy : y < c.activeHeight) :
    0 + (y / c.glyphHeight + 1) * c.cellsPerRow ≤ c.totalCells := by
  have hrow : y / c.glyphHeight < c.rows :=
    Nat.div_lt_of_lt_mul (by rwa [Nat.mul_comm, ← Config.activeHeight_eq hv])
  rw [Nat.zero_add, Config.totalCells, Nat.mul_comm c.cellsPerRow]
  exact Nat.mul_le_mul_right _ hrow

/-- What holds of all words, or of all lines, holds of the first k. -/
theorem all_take {α : Type} {p : α → Bool} {ws : List α} (h : ws.all p = true) (k : Nat) : (ws.take k).all p = true :=
  List.all_eq_true.2 fun w hw => List.all_eq_true.1 h w (List.mem_of_mem_take hw)

namespace Machine

/-! ## The tracker as a fold over control words -/

/-- The Scan State after one control word: `scanAfter`, whose other registers do not matter. -/
def scanStep (c : Config) (v : Scan) (w : Ctl) : Scan := scanAfter { State.powerOn c with scan := v } w

/-- The Scan State after the control words of a list. -/
def scanRun (c : Config) (v : Scan) (ws : List Ctl) : Scan := ws.foldl (scanStep c) v

theorem scanAfter_eq_scanStep (s : State) (w : Ctl) : scanAfter s w = scanStep s.cfg s.scan w :=
  (scanAfter_congr rfl rfl w).symm

@[simp] theorem scanRun_nil (c : Config) (v : Scan) : scanRun c v [] = v := rfl

@[simp] theorem scanRun_cons (c : Config) (v : Scan) (w : Ctl) (ws : List Ctl) :
    scanRun c v (w :: ws) = scanRun c (scanStep c v w) ws := rfl

theorem scanRun_append (c : Config) (v : Scan) (ws ws' : List Ctl) :
    scanRun c v (ws ++ ws') = scanRun c (scanRun c v ws) ws' := List.foldl_append

/-- Queued words are sampled in their order. -/
theorem iterate_scan {s : State} {ws rest : List Ctl} (h : s.inputs = ws ++ rest) :
    (nextState^[ws.length] s).scan = scanRun s.cfg s.scan ws := by
  induction ws generalizing s with
  | nil => rfl
  | cons w ws ih =>
    have hctl : sampledCtl s = w := sampledCtl_cons h
    have hnext : (nextState s).inputs = ws ++ rest := by rw [nextState_inputs, h]; rfl
    rw [List.length_cons, Function.iterate_succ_apply, ih hnext, nextState_cfg, nextState_scan, hctl,
      scanAfter_eq_scanStep, scanRun_cons]

theorem iterate_inputs_of_append {s : State} {ws rest : List Ctl} (h : s.inputs = ws ++ rest) :
    (nextState^[ws.length] s).inputs = rest := by
  rw [iterate_inputs, h, List.drop_left]

/-- Within queued words, k ticks consume the first k. -/
theorem iterate_scan_take {s : State} {ws rest : List Ctl} (h : s.inputs = ws ++ rest) {k : Nat} (hk : k ≤ ws.length) :
    (nextState^[k] s).scan = scanRun s.cfg s.scan (ws.take k) := by
  have hsplit : s.inputs = ws.take k ++ (ws.drop k ++ rest) := by rw [← List.append_assoc, List.take_append_drop, h]
  rw [← iterate_scan hsplit, List.length_take_of_le hk]

/-! ## One control word of each class (spec/40_scan_tracker.md R100 to R103) -/

theorem scanStep_of_isFrameReset (c : Config) (v : Scan) {w : Ctl} (h : isFrameReset w = true) :
    scanStep c v w = Scan.zero := scanAfter_of_isFrameReset _ h

theorem scanStep_of_isHold (c : Config) (v : Scan) {w : Ctl} (h : isHold w = true) : scanStep c v w = v :=
  scanAfter_of_isHold _ h

theorem scanStep_of_isLineAdvance {c : Config} {v : Scan} (hrow : v.rowInGlyph < c.glyphHeight) {w : Ctl}
    (h : isLineAdvance w = true) :
    scanStep c v w =
      if v.rowInGlyph = c.glyphHeight - 1 then
        { cellIndex := v.cellIndex, rowStart := v.cellIndex, columnInGlyph := 0, rowInGlyph := 0 }
      else { cellIndex := v.rowStart, rowStart := v.rowStart, columnInGlyph := 0, rowInGlyph := v.rowInGlyph + 1 } := by
  rw [scanStep, scanAfter_of_isLineAdvance _ h]
  exact lineAdvanceScan_of_row_in_range hrow

theorem scanStep_of_active {c : Config} {v : Scan} (hcol : v.columnInGlyph < c.glyphWidth) :
    scanStep c v 0x5#4 =
      { cellIndex := if v.columnInGlyph = 0 then (v.cellIndex + 1) % 2 ^ c.wCell else v.cellIndex
        rowStart := v.rowStart
        columnInGlyph := if v.columnInGlyph = c.glyphWidth - 1 then 0 else v.columnInGlyph + 1
        rowInGlyph := v.rowInGlyph } := by
  rw [scanStep, scanAfter_of_isPixelAdvance _ (by decide)]
  exact pixelAdvanceScan_of_column_in_range hcol

/-! ## Runs of one class -/

theorem scanRun_of_holds (c : Config) (v : Scan) {ws : List Ctl} (h : ws.all isHold = true) : scanRun c v ws = v := by
  induction ws with
  | nil => rfl
  | cons w ws ih =>
    obtain ⟨hw, hws⟩ := Bool.and_eq_true_iff.1 h
    rw [scanRun_cons, scanStep_of_isHold c v hw, ih hws]

/-- Level sampling: every FRAME_RESET tick resets (spec/40_scan_tracker.md R106, R110). -/
theorem scanRun_of_resets (c : Config) {v : Scan} {ws : List Ctl} (h : ws.all isFrameReset = true)
    (hstart : ws ≠ [] ∨ v = Scan.zero) : scanRun c v ws = Scan.zero := by
  induction ws generalizing v with
  | nil => exact hstart.resolve_left (absurd rfl)
  | cons w ws ih =>
    obtain ⟨hw, hws⟩ := Bool.and_eq_true_iff.1 h
    rw [scanRun_cons, scanStep_of_isFrameReset c v hw]
    exact ih hws (.inr rfl)

/-- Every LINE_ADVANCE tick advances one scanline and zeroes the column. -/
theorem scanRun_of_lineAdvances {c : Config} {v : Scan} (hrow : v.rowInGlyph < c.glyphHeight) {ws : List Ctl}
    (h : ws.all isLineAdvance = true) :
    (scanRun c v ws).rowInGlyph = (v.rowInGlyph + ws.length) % c.glyphHeight ∧
      (ws ≠ [] ∨ v.columnInGlyph = 0 → (scanRun c v ws).columnInGlyph = 0) := by
  have hpos : 1 ≤ c.glyphHeight := Nat.one_le_of_lt hrow
  induction ws generalizing v with
  | nil => exact ⟨(Nat.mod_eq_of_lt hrow).symm, fun hstart => hstart.resolve_left (absurd rfl)⟩
  | cons w ws ih =>
    obtain ⟨hw, hws⟩ := Bool.and_eq_true_iff.1 h
    have hstep : (scanStep c v w).rowInGlyph = (v.rowInGlyph + 1) % c.glyphHeight ∧ (scanStep c v w).columnInGlyph = 0 := by
      rw [scanStep_of_isLineAdvance hrow hw, succ_mod_eq _ hpos, Nat.mod_eq_of_lt hrow]
      split
      · exact ⟨rfl, rfl⟩
      · exact ⟨rfl, rfl⟩
    obtain ⟨hrow', hcol'⟩ := hstep
    obtain ⟨hrun, hcol⟩ := ih (hrow'.symm ▸ Nat.mod_lt _ hpos) hws
    refine ⟨?_, fun _ => hcol (.inr hcol')⟩
    rw [scanRun_cons, hrun, hrow', Nat.mod_add_mod, List.length_cons, Nat.add_assoc, Nat.add_comm 1]

/-! ## A run of active ticks (spec/40_scan_tracker.md R108) -/

theorem scanRun_active_succ (c : Config) (v : Scan) (x : Nat) :
    scanRun c v (List.replicate (x + 1) 0x5#4) = scanStep c (scanRun c v (List.replicate x 0x5#4)) 0x5#4 := by
  rw [List.replicate_succ', scanRun_append]
  rfl

theorem scanRun_active_column {c : Config} {v : Scan} (hcol : v.columnInGlyph < c.glyphWidth) (x : Nat) :
    (scanRun c v (List.replicate x 0x5#4)).columnInGlyph = (v.columnInGlyph + x) % c.glyphWidth := by
  have hpos : 1 ≤ c.glyphWidth := Nat.one_le_of_lt hcol
  induction x with
  | zero => exact (Nat.mod_eq_of_lt hcol).symm
  | succ x ih =>
    rw [scanRun_active_succ, scanStep_of_active (ih ▸ Nat.mod_lt _ hpos), ih, ← Nat.add_assoc, succ_mod_eq _ hpos]

/-- ceil(x / g) for g >= 1, as R108 writes it, grows in the ticks that start in column 0. -/
theorem ceilDiv_succ (x : Nat) {g : Nat} (hg : 1 ≤ g) :
    (x + 1 + g - 1) / g = if x % g = 0 then (x + g - 1) / g + 1 else (x + g - 1) / g := by
  have hsucc : x + 1 + g - 1 = x + g - 1 + 1 := by omega
  have hback : x + g - 1 + 1 = x + g := by omega
  have hdvd : g ∣ x + g - 1 + 1 ↔ x % g = 0 := by
    rw [hback, Nat.dvd_iff_mod_eq_zero, Nat.add_mod_right]
  rw [hsucc, Nat.succ_div]
  simp only [hdvd]
  split
  · rfl
  · rfl

theorem scanRun_active {c : Config} {v : Scan} (hgw : 1 ≤ c.glyphWidth) (hcol : v.columnInGlyph = 0)
    (hcell : v.cellIndex < 2 ^ c.wCell) (x : Nat) :
    scanRun c v (List.replicate x 0x5#4) =
      { cellIndex := (v.cellIndex + (x + c.glyphWidth - 1) / c.glyphWidth) % 2 ^ c.wCell
        rowStart := v.rowStart
        columnInGlyph := x % c.glyphWidth
        rowInGlyph := v.rowInGlyph } := by
  induction x with
  | zero =>
    have hzero : (0 + c.glyphWidth - 1) / c.glyphWidth = 0 := Nat.div_eq_of_lt (by omega)
    rw [List.replicate_zero, scanRun_nil, hzero, Nat.add_zero, Nat.mod_eq_of_lt hcell, Nat.zero_mod, ← hcol]
  | succ x ih =>
    rw [scanRun_active_succ, ih, scanStep_of_active (Nat.mod_lt _ hgw), ceilDiv_succ x hgw, succ_mod_eq x hgw]
    dsimp only
    split
    · rw [Nat.mod_add_mod, Nat.add_assoc]
    · rfl

/-! ## The obligations on runs of one class -/

/-- Settles O29: the first of the k ticks resets, and the others keep 0. -/
theorem frameResetIdempotence : Obligations.FrameResetIdempotence := by
  intro s ws rest hv hinputs hall k hk hkws
  refine ⟨_, runTicks_of_valid hv k, ?_⟩
  rw [iterate_scan_take hinputs hkws]
  refine scanRun_of_resets s.cfg (all_take hall k) (.inl ?_)
  rw [← List.length_pos_iff, List.length_take_of_le hkws]
  exact hk

/-- Settles O30: the strobe is no edge, every tick of it is a LINE_ADVANCE. -/
theorem heldLineStrobeAdvancesEveryTick : Obligations.HeldLineStrobeAdvancesEveryTick := by
  intro s ws rest hs hinputs hall k hkws
  obtain ⟨hv, -, hrow, -⟩ := (countersInRange_iff s).1 hs
  obtain ⟨hrun, hcol⟩ := scanRun_of_lineAdvances hrow (all_take hall k)
  rw [List.length_take_of_le hkws] at hrun
  rw [← iterate_scan_take hinputs hkws] at hrun hcol
  refine ⟨_, runTicks_of_valid hv k, hrun, fun hk => hcol (.inl ?_)⟩
  rw [← List.length_pos_iff, List.length_take_of_le hkws]
  exact hk

/-- Settles O37: the closed form of a run of active ticks. -/
theorem scanLineTrajectory : Obligations.ScanLineTrajectory := by
  intro s m rest hs hcol hinputs x hx
  obtain ⟨hv, ⟨hcell, -, -, -⟩, -, -, -⟩ := (registersFit_iff s).1 hs
  obtain ⟨hgw, -, -⟩ := Config.valid_bounds hv
  refine ⟨_, runTicks_of_valid hv x, ?_⟩
  rw [iterate_scan_take hinputs (by rwa [List.length_replicate]), List.take_replicate, Nat.min_eq_left hx]
  exact scanRun_active (by omega) hcol hcell x

/-! ## A line (spec/70_reset_and_hazards.md R200 part 3) -/

/-- The Scan State at the start of a line: row r, which starts at cell R. -/
def lineScan (R r : Nat) : Scan := { cellIndex := R, rowStart := R, columnInGlyph := 0, rowInGlyph := r }

/-- Over a line of cells below N the cell index does not wrap. -/
theorem scanRun_line_active {c : Config} (hv : c.valid = true) {R r x : Nat} (hR : R + c.cellsPerRow ≤ c.totalCells)
    (hx : x ≤ c.activeWidth) :
    scanRun c (lineScan R r) (List.replicate x 0x5#4) =
      { cellIndex := R + (x + c.glyphWidth - 1) / c.glyphWidth, rowStart := R, columnInGlyph := x % c.glyphWidth,
        rowInGlyph := r } := by
  obtain ⟨hgw, -, -⟩ := Config.valid_bounds hv
  have hN : c.totalCells < 2 ^ c.wCell := c.totalCells_lt_two_pow_wCell
  have hceil := Config.ceilDiv_le hv hx
  rw [scanRun_active (by omega) rfl (by dsimp only [lineScan]; omega) x]
  dsimp only [lineScan]
  rw [Nat.mod_eq_of_lt (by omega)]

/-- The Scan State at the start of line y of a run of character rows whose first starts at cell R. -/
def lineStartScan (c : Config) (R y : Nat) : Scan := lineScan (R + y / c.glyphHeight * c.cellsPerRow) (y % c.glyphHeight)

/-- The line strobe at the end of the active ticks of line y goes to line y + 1. -/
theorem scanStep_lineEnd {c : Config} (hv : c.valid = true) (R y : Nat) {w : Ctl} (hw : isLineAdvance w = true) :
    scanStep c { cellIndex := R + (y / c.glyphHeight + 1) * c.cellsPerRow
                 rowStart := R + y / c.glyphHeight * c.cellsPerRow, columnInGlyph := 0
                 rowInGlyph := y % c.glyphHeight } w = lineStartScan c R (y + 1) := by
  obtain ⟨-, hgh, -⟩ := Config.valid_bounds hv
  rw [scanStep_of_isLineAdvance (Nat.mod_lt _ hgh) hw, lineStartScan, succ_mod_eq y hgh, Nat.succ_div]
  simp only [dvd_succ_iff_mod_eq y hgh]
  split
  · rfl
  · rfl

/-- The cells of line y, given that those of its character row are below N. -/
theorem scanRun_lineStart_active {c : Config} (hv : c.valid = true) {R y x : Nat}
    (hR : R + (y / c.glyphHeight + 1) * c.cellsPerRow ≤ c.totalCells) (hx : x ≤ c.activeWidth) :
    scanRun c (lineStartScan c R y) (List.replicate x 0x5#4) =
      { cellIndex := R + y / c.glyphHeight * c.cellsPerRow + (x + c.glyphWidth - 1) / c.glyphWidth
        rowStart := R + y / c.glyphHeight * c.cellsPerRow, columnInGlyph := x % c.glyphWidth
        rowInGlyph := y % c.glyphHeight } := by
  rw [Nat.succ_mul] at hR
  exact scanRun_line_active hv (by omega) hx

/-- From the strobe of line y on. -/
theorem scanRun_line {c : Config} (hv : c.valid = true) {R y : Nat}
    (hR : R + (y / c.glyphHeight + 1) * c.cellsPerRow ≤ c.totalCells) {l : LineStream} (hl : l.holds = true) :
    scanRun c (lineStartScan c R y) (List.replicate c.activeWidth 0x5#4 ++ (l.front ++ [l.strobe])) =
      lineStartScan c R (y + 1) := by
  obtain ⟨hfront, hstrobe, -⟩ := l.holds_iff.1 hl
  obtain ⟨hmod, -⟩ := (Config.valid_iff c).1 hv
  rw [scanRun_append, scanRun_lineStart_active hv hR le_rfl, Config.ceilDiv_activeWidth hv, hmod, scanRun_append,
    scanRun_of_holds c _ hfront, Nat.add_assoc, ← Nat.succ_mul, scanRun_cons, scanRun_nil, scanStep_lineEnd hv R y hstrobe]

theorem LineStream.words_eq (c : Config) (l : LineStream) :
    l.words c = (List.replicate c.activeWidth 0x5#4 ++ (l.front ++ [l.strobe])) ++ l.back := by
  simp [LineStream.words]

theorem scanRun_line_words {c : Config} (hv : c.valid = true) {R y : Nat}
    (hR : R + (y / c.glyphHeight + 1) * c.cellsPerRow ≤ c.totalCells) {l : LineStream} (hl : l.holds = true) :
    scanRun c (lineStartScan c R y) (l.words c) = lineStartScan c R (y + 1) := by
  obtain ⟨-, -, hback⟩ := l.holds_iff.1 hl
  rw [l.words_eq c, scanRun_append, scanRun_line hv hR hl, scanRun_of_holds c _ hback]

/-- Lines from the start of a character row at R, all of whose character rows are below N. -/
theorem scanRun_lines {c : Config} (hv : c.valid = true) {R : Nat} {ls : List LineStream}
    (hls : ls.all LineStream.holds = true)
    (hR : ∀ y, y < ls.length → R + (y / c.glyphHeight + 1) * c.cellsPerRow ≤ c.totalCells) :
    scanRun c (lineScan R 0) (lineWords c ls) = lineStartScan c R ls.length := by
  induction ls using List.reverseRecOn with
  | nil => simp [lineStartScan]
  | append_singleton ls l ih =>
    rw [List.all_append, Bool.and_eq_true_iff] at hls
    obtain ⟨hinit, hlast⟩ := hls
    have hl : l.holds = true := List.all_eq_true.1 hlast l (List.mem_singleton_self l)
    rw [List.length_append, List.length_singleton] at hR ⊢
    rw [lineWords_append, scanRun_append, ih hinit fun y hy => hR y (by omega), lineWords_cons, lineWords_nil,
      List.append_nil, scanRun_line_words hv (hR _ (by omega)) hl]

/-- The lines before line y, likewise. -/
theorem scanRun_lines_take {c : Config} (hv : c.valid = true) {R : Nat} {ls : List LineStream}
    (hls : ls.all LineStream.holds = true) {y : Nat} (hy : y ≤ ls.length)
    (hR : ∀ z, z < y → R + (z / c.glyphHeight + 1) * c.cellsPerRow ≤ c.totalCells) :
    scanRun c (lineScan R 0) (lineWords c (ls.take y)) = lineStartScan c R y := by
  have hrun := scanRun_lines hv (all_take hls y) (R := R)
  rw [List.length_take_of_le hy] at hrun
  exact hrun hR

theorem lineWords_take_append_drop (c : Config) (ls : List LineStream) (y : Nat) :
    lineWords c (ls.take y) ++ lineWords c (ls.drop y) = lineWords c ls := by
  rw [← lineWords_append, List.take_append_drop]

/-- The words from line y on begin with its active ticks. -/
theorem exists_lineWords_drop_eq (c : Config) {ls : List LineStream} {y : Nat} (hy : y < ls.length) :
    ∃ ws, lineWords c (ls.drop y) = List.replicate c.activeWidth 0x5#4 ++ ws := by
  rw [List.drop_eq_getElem_cons hy, lineWords_cons, LineStream.words, List.append_assoc]
  exact ⟨_, rfl⟩

/-- The Scan State x active ticks after words that lead to the start of line y. -/
theorem iterate_scan_in_line {s : State} (hv : s.cfg.valid = true) {ws rest : List Ctl} {R y x : Nat}
    (hinputs : s.inputs = ws ++ (List.replicate s.cfg.activeWidth 0x5#4 ++ rest))
    (hstart : scanRun s.cfg s.scan ws = lineStartScan s.cfg R y)
    (hR : R + (y / s.cfg.glyphHeight + 1) * s.cfg.cellsPerRow ≤ s.cfg.totalCells) (hx : x ≤ s.cfg.activeWidth) :
    (nextState^[ws.length + x] s).scan =
      { cellIndex := R + y / s.cfg.glyphHeight * s.cfg.cellsPerRow + (x + s.cfg.glyphWidth - 1) / s.cfg.glyphWidth
        rowStart := R + y / s.cfg.glyphHeight * s.cfg.cellsPerRow, columnInGlyph := x % s.cfg.glyphWidth
        rowInGlyph := y % s.cfg.glyphHeight } := by
  have hsplit : s.inputs = (ws ++ List.replicate s.cfg.activeWidth 0x5#4) ++ rest := by rw [hinputs, List.append_assoc]
  have htake : (ws ++ List.replicate s.cfg.activeWidth 0x5#4).take (ws.length + x) = ws ++ List.replicate x 0x5#4 := by
    rw [List.take_length_add_append, List.take_replicate, Nat.min_eq_left hx]
  have hlength : ws.length + x ≤ (ws ++ List.replicate s.cfg.activeWidth 0x5#4).length := by
    rw [List.length_append, List.length_replicate]
    omega
  rw [iterate_scan_take hsplit hlength, htake, scanRun_append, hstart, scanRun_lineStart_active hv hR hx]

/-! ## A character row (spec/40_scan_tracker.md R109) -/

/-- Settles O38: the row's lines are lines 0 to GH-1 from R, all in the one character row. -/
theorem characterRowIsScannedGlyphHeightTimes : Obligations.CharacterRowIsScannedGlyphHeightTimes := by
  intro s r lines rest hv hscan hr hlength hlines hinputs
  obtain ⟨-, hgh, -⟩ := Config.valid_bounds hv
  have hrow : ∀ y, y < s.cfg.glyphHeight → r + (y / s.cfg.glyphHeight + 1) * s.cfg.cellsPerRow ≤ s.cfg.totalCells := by
    intro y hy
    rwa [Nat.div_eq_of_lt hy, Nat.zero_add, Nat.one_mul]
  have hstart : ∀ j, j ≤ s.cfg.glyphHeight →
      scanRun s.cfg s.scan (lineWords s.cfg (lines.take j)) = lineStartScan s.cfg r j := fun j hj =>
    hscan ▸ scanRun_lines_take hv hlines (hlength ▸ hj) fun y hy => hrow y (hy.trans_le hj)
  have hsplit : ∀ j, s.inputs = lineWords s.cfg (lines.take j) ++ (lineWords s.cfg (lines.drop j) ++ rest) := fun j => by
    rw [← List.append_assoc, lineWords_take_append_drop, hinputs]
  constructor
  · intro j hj
    refine ⟨_, runTicks_of_valid hv _, ?_⟩
    rw [iterate_scan (hsplit j), hstart j hj, lineStartScan]
    split
    case isTrue hlt => rw [Nat.div_eq_of_lt hlt, Nat.mod_eq_of_lt hlt, Nat.zero_mul]; rfl
    case isFalse hge =>
      rw [Nat.le_antisymm hj (Nat.not_lt.1 hge), Nat.div_self hgh, Nat.mod_self, Nat.one_mul]
      rfl
  · intro j x hj hx
    refine ⟨_, runTicks_of_valid hv _, ?_⟩
    obtain ⟨ws, hws⟩ := exists_lineWords_drop_eq s.cfg (hlength.symm ▸ hj)
    have hline := hsplit j
    rw [hws, List.append_assoc] at hline
    rw [iterate_scan_in_line hv hline (hstart j hj.le) (hrow j hj) hx, Nat.div_eq_of_lt hj, Nat.mod_eq_of_lt hj,
      Nat.zero_mul]
    exact ⟨rfl, rfl, rfl⟩

/-! ## A frame (spec/40_scan_tracker.md R111) -/

/-- After the last line the Scan State stands at cell N. -/
theorem lineStartScan_activeHeight {c : Config} (hv : c.valid = true) :
    lineStartScan c 0 c.activeHeight = lineScan c.totalCells 0 := by
  obtain ⟨-, hgh, -⟩ := Config.valid_bounds hv
  rw [lineStartScan, Config.activeHeight_eq hv, Nat.mul_div_cancel _ hgh, Nat.mul_mod_left, Nat.zero_add,
    Config.totalCells, Nat.mul_comm c.rows]

section frame

variable {c : Config} (hv : c.valid = true) {f : FrameStream} (hf : f.conforms c = true) {v : Scan}
  (hstart : f.resets ≠ [] ∨ v = Scan.zero)
include hf hstart

/-- The frame's lines start from the Scan State 0. -/
theorem scanRun_frame_start : scanRun c v (f.resets ++ f.pre) = lineScan 0 0 := by
  obtain ⟨hresets, hpre, -⟩ := (f.conforms_iff c).1 hf
  obtain ⟨-, hprehold, -⟩ := (settles_iff _).1 hpre
  rw [scanRun_append, scanRun_of_resets c hresets hstart, scanRun_of_holds c _ hprehold]
  rfl

include hv

theorem scanRun_frame_line {y : Nat} (hy : y ≤ c.activeHeight) :
    scanRun c v (f.resets ++ f.pre ++ lineWords c (f.lines.take y)) = lineStartScan c 0 y := by
  obtain ⟨-, -, hlength, hlines, -⟩ := (f.conforms_iff c).1 hf
  rw [scanRun_append, scanRun_frame_start hf hstart]
  exact scanRun_lines_take hv hlines (hlength.symm ▸ hy) fun z hz => Config.row_end_le_totalCells hv (hz.trans_le hy)

end frame

theorem FrameStream.lineStart_eq_length (c : Config) (f : FrameStream) (y : Nat) :
    f.lineStart c y = (f.resets ++ f.pre ++ lineWords c (f.lines.take y)).length := by
  rw [FrameStream.lineStart, List.length_append, List.length_append]

theorem FrameStream.words_split (c : Config) (f : FrameStream) (y : Nat) :
    f.words c = (f.resets ++ f.pre ++ lineWords c (f.lines.take y)) ++ (lineWords c (f.lines.drop y) ++ f.post) := by
  rw [FrameStream.words, ← lineWords_take_append_drop c f.lines y]
  simp only [List.append_assoc]

/-- The words of a frame up to the strobe of its last line. -/
def FrameStream.wordsToStrobe (c : Config) (f : FrameStream) (last : LineStream) : List Ctl :=
  f.resets ++ f.pre ++ lineWords c f.lines.dropLast ++
    (List.replicate c.activeWidth 0x5#4 ++ (last.front ++ [last.strobe]))

theorem FrameStream.words_split_last (c : Config) {f : FrameStream} {last : LineStream}
    (hlast : f.lines.getLast? = some last) :
    f.words c = f.wordsToStrobe c last ++ (last.back ++ f.post) := by
  have hlines : f.lines = f.lines.dropLast ++ [last] := (List.dropLast_append_getLast? last hlast).symm
  rw [FrameStream.words, FrameStream.wordsToStrobe, hlines, lineWords_append, lineWords_cons, lineWords_nil, last.words_eq c]
  simp only [List.append_assoc, List.append_nil, List.dropLast_concat]

theorem FrameStream.lineStart_add_post (c : Config) {f : FrameStream} (hlength : f.lines.length = c.activeHeight) :
    f.lineStart c c.activeHeight + f.post.length = (f.words c).length := by
  rw [f.words_split c c.activeHeight, f.lineStart_eq_length, List.drop_of_length_le hlength.le, lineWords_nil,
    List.nil_append, List.length_append (bs := f.post)]

/-- From the strobe of the last line on. -/
theorem scanRun_frame_last {c : Config} (hv : c.valid = true) {f : FrameStream} (hf : f.conforms c = true) {v : Scan}
    (hstart : f.resets ≠ [] ∨ v = Scan.zero) {last : LineStream} (hlast : f.lines.getLast? = some last) :
    scanRun c v (f.wordsToStrobe c last) = lineScan c.totalCells 0 := by
  obtain ⟨-, -, hlength, hlines, -⟩ := (f.conforms_iff c).1 hf
  have hmem : last ∈ f.lines := List.mem_of_getLast? hlast
  have hpos : 1 ≤ c.activeHeight := hlength ▸ List.length_pos_of_mem hmem
  rw [FrameStream.wordsToStrobe, List.dropLast_eq_take, hlength, scanRun_append, scanRun_frame_line hv hf hstart (Nat.sub_le _ 1),
    scanRun_line hv (Config.row_end_le_totalCells hv (by omega)) (List.all_eq_true.1 hlines last hmem),
    Nat.sub_add_cancel hpos, lineStartScan_activeHeight hv]

/-- Settles O39: the line starts by the count of lines, the end of the frame by HOLD after its last strobe. -/
theorem frameScanPositions : Obligations.FrameScanPositions := by
  intro s f rest hv hf hstart hinputs
  obtain ⟨-, -, hlength, hlines, -, hpost⟩ := (f.conforms_iff _).1 hf
  constructor
  · intro y hy
    refine ⟨_, runTicks_of_valid hv _, ?_⟩
    rw [f.words_split s.cfg y, List.append_assoc] at hinputs
    rw [f.lineStart_eq_length, iterate_scan hinputs, scanRun_frame_line hv hf hstart hy.le, lineStartScan, Nat.zero_add]
    rfl
  · intro last k hlast hk hkwords
    refine ⟨_, runTicks_of_valid hv _, ?_⟩
    obtain ⟨-, -, hback⟩ := last.holds_iff.1 (List.all_eq_true.1 hlines last (List.mem_of_getLast? hlast))
    have hhold : (last.back ++ f.post).all isHold = true := by rw [List.all_append, hback, hpost]; rfl
    have hwords := f.words_split_last s.cfg hlast
    have hlengths := f.lineStart_add_post s.cfg hlength
    have hcount := congrArg List.length hwords
    rw [List.length_append, List.length_append (as := last.back)] at hcount
    have hstrobe : (f.wordsToStrobe s.cfg last).length ≤ k := by omega
    obtain ⟨m, rfl⟩ := Nat.exists_eq_add_of_le hstrobe
    rw [iterate_scan_take hinputs hkwords, hwords, List.take_length_add_append, scanRun_append,
      scanRun_frame_last hv hf hstart hlast]
    exact scanRun_of_holds _ _ (all_take hhold m)

/-! ## A stream: the index bounds (spec/10_state.md R34) -/

/-- The bound of R34 on one Scan State. -/
def IndexBounded (c : Config) (v : Scan) : Prop := v.rowStart ≤ v.cellIndex ∧ v.cellIndex ≤ c.totalCells

/-- The bound holds after every control word of the list, from a Scan State that need not meet it. -/
def StaysBounded (c : Config) : Scan → List Ctl → Prop
  | _, [] => True
  | v, w :: ws => IndexBounded c (scanStep c v w) ∧ StaysBounded c (scanStep c v w) ws

theorem StaysBounded.of_append {c : Config} {v : Scan} {ws ws' : List Ctl} (h : StaysBounded c v ws)
    (h' : StaysBounded c (scanRun c v ws) ws') : StaysBounded c v (ws ++ ws') := by
  induction ws generalizing v with
  | nil => exact h'
  | cons w ws ih =>
    obtain ⟨hw, hws⟩ := h
    exact ⟨hw, ih hws h'⟩

theorem StaysBounded.take {c : Config} {v : Scan} {ws : List Ctl} (h : StaysBounded c v ws) {k : Nat} (hk : 1 ≤ k)
    (hkws : k ≤ ws.length) : IndexBounded c (scanRun c v (ws.take k)) := by
  induction ws generalizing v k with
  | nil => exact absurd (hk.trans hkws) (by decide)
  | cons w ws ih =>
    obtain ⟨hw, hws⟩ := h
    obtain ⟨k, rfl⟩ := Nat.exists_eq_add_of_le' hk
    rw [List.take_succ_cons, scanRun_cons]
    rcases Nat.eq_zero_or_pos k with rfl | hpos
    · rwa [List.take_zero, scanRun_nil]
    · exact ih hws hpos (Nat.le_of_succ_le_succ hkws)

theorem staysBounded_singleton {c : Config} {v : Scan} {w : Ctl} (h : IndexBounded c (scanStep c v w)) :
    StaysBounded c v [w] := ⟨h, trivial⟩

theorem staysBounded_of_holds {c : Config} {v : Scan} (hb : IndexBounded c v) {ws : List Ctl}
    (h : ws.all isHold = true) : StaysBounded c v ws := by
  induction ws with
  | nil => trivial
  | cons w ws ih =>
    obtain ⟨hw, hws⟩ := Bool.and_eq_true_iff.1 h
    rw [StaysBounded, scanStep_of_isHold c v hw]
    exact ⟨hb, ih hws⟩

theorem indexBounded_zero (c : Config) : IndexBounded c Scan.zero := ⟨le_rfl, Nat.zero_le _⟩

theorem staysBounded_of_resets {c : Config} (v : Scan) {ws : List Ctl} (h : ws.all isFrameReset = true) :
    StaysBounded c v ws := by
  induction ws generalizing v with
  | nil => trivial
  | cons w ws ih =>
    obtain ⟨hw, hws⟩ := Bool.and_eq_true_iff.1 h
    rw [StaysBounded, scanStep_of_isFrameReset c v hw]
    exact ⟨indexBounded_zero c, ih _ hws⟩

theorem indexBounded_next_lineStart {c : Config} {R y : Nat}
    (hR : R + (y / c.glyphHeight + 1) * c.cellsPerRow ≤ c.totalCells) : IndexBounded c (lineStartScan c R (y + 1)) := by
  have hrow : (y + 1) / c.glyphHeight ≤ y / c.glyphHeight + 1 := by
    rw [Nat.succ_div]
    split <;> omega
  exact ⟨le_rfl, (Nat.add_le_add_left (Nat.mul_le_mul_right _ hrow) R).trans hR⟩

section bounds

variable {c : Config} (hv : c.valid = true) {R y : Nat}
  (hR : R + (y / c.glyphHeight + 1) * c.cellsPerRow ≤ c.totalCells)
include hv hR

/-- In a line the cell index runs from the row's first cell to the one after its last. -/
theorem indexBounded_in_line {x : Nat} (hx : x ≤ c.activeWidth) :
    IndexBounded c (scanRun c (lineStartScan c R y) (List.replicate x 0x5#4)) := by
  have hceil := Config.ceilDiv_le hv hx
  rw [scanRun_lineStart_active hv hR hx]
  rw [Nat.succ_mul] at hR
  exact ⟨Nat.le_add_right _ _, by dsimp only; omega⟩

theorem staysBounded_active {x : Nat} (hx : x ≤ c.activeWidth) :
    StaysBounded c (lineStartScan c R y) (List.replicate x 0x5#4) := by
  induction x with
  | zero => trivial
  | succ x ih =>
    rw [List.replicate_succ']
    refine (ih (Nat.le_of_succ_le hx)).of_append (staysBounded_singleton ?_)
    rw [← scanRun_active_succ]
    exact indexBounded_in_line hv hR hx

theorem staysBounded_line {l : LineStream} (hl : l.holds = true) : StaysBounded c (lineStartScan c R y) (l.words c) := by
  obtain ⟨hfront, hstrobe, hback⟩ := l.holds_iff.1 hl
  have hnext := scanRun_line hv hR hl
  have hbound := indexBounded_next_lineStart hR
  rw [l.words_eq c]
  refine StaysBounded.of_append ((staysBounded_active hv hR le_rfl).of_append
    ((staysBounded_of_holds (indexBounded_in_line hv hR le_rfl) hfront).of_append (staysBounded_singleton ?_))) ?_
  · rw [scanRun_append, scanRun_append, scanRun_cons, scanRun_nil] at hnext
    rwa [hnext]
  · rw [hnext]
    exact staysBounded_of_holds hbound hback

end bounds

theorem staysBounded_lines {c : Config} (hv : c.valid = true) {R : Nat} {ls : List LineStream}
    (hls : ls.all LineStream.holds = true)
    (hR : ∀ y, y < ls.length → R + (y / c.glyphHeight + 1) * c.cellsPerRow ≤ c.totalCells) :
    StaysBounded c (lineScan R 0) (lineWords c ls) := by
  induction ls using List.reverseRecOn with
  | nil => trivial
  | append_singleton ls l ih =>
    rw [List.all_append, Bool.and_eq_true_iff] at hls
    obtain ⟨hinit, hlast⟩ := hls
    have hl : l.holds = true := List.all_eq_true.1 hlast l (List.mem_singleton_self l)
    rw [List.length_append, List.length_singleton] at hR
    have hRinit : ∀ y, y < ls.length → R + (y / c.glyphHeight + 1) * c.cellsPerRow ≤ c.totalCells :=
      fun y hy => hR y (by omega)
    rw [lineWords_append, lineWords_cons, lineWords_nil, List.append_nil]
    refine (ih hinit hRinit).of_append ?_
    rw [scanRun_lines hv hinit hRinit]
    exact staysBounded_line hv (hR _ (by omega)) hl

theorem staysBounded_frame {c : Config} (hv : c.valid = true) {f : FrameStream} (hf : f.conforms c = true) {v : Scan}
    (hstart : f.resets ≠ [] ∨ v = Scan.zero) : StaysBounded c v (f.words c) := by
  obtain ⟨hresets, hpre, hlength, hlines, -, hpost⟩ := (f.conforms_iff c).1 hf
  obtain ⟨-, hprehold, -⟩ := (settles_iff _).1 hpre
  have hrows : ∀ y, y < f.lines.length → 0 + (y / c.glyphHeight + 1) * c.cellsPerRow ≤ c.totalCells :=
    fun y hy => Config.row_end_le_totalCells hv (hlength ▸ hy)
  have hzero : scanRun c v f.resets = Scan.zero := scanRun_of_resets c hresets hstart
  have hpreZero : scanRun c Scan.zero f.pre = lineScan 0 0 := scanRun_of_holds c _ hprehold
  have hend : scanRun c (lineScan 0 0) (lineWords c f.lines) = lineScan c.totalCells 0 := by
    rw [scanRun_lines hv hlines hrows, hlength, lineStartScan_activeHeight hv]
  refine (staysBounded_of_resets v hresets).of_append ?_
  rw [hzero]
  refine (staysBounded_of_holds (indexBounded_zero c) hprehold).of_append ?_
  rw [hpreZero]
  refine (staysBounded_lines hv hlines hrows).of_append ?_
  rw [hend]
  exact staysBounded_of_holds ⟨le_rfl, le_rfl⟩ hpost

/-! ## Streams -/

theorem streamConforms_iff (c : Config) (fs : List FrameStream) :
    streamConforms c fs = true ↔
      (∀ f ∈ fs, f.conforms c = true) ∧ ∀ f ∈ fs.tail, f.resets ≠ [] := by
  simp [streamConforms]

theorem startsWithReset_cons_iff (f : FrameStream) (fs : List FrameStream) :
    startsWithReset (f :: fs) = true ↔ f.resets ≠ [] := by
  simp [startsWithReset]

theorem staysBounded_stream {c : Config} (hv : c.valid = true) {fs : List FrameStream} {v : Scan}
    (hfs : ∀ f ∈ fs, f.conforms c = true) (hresets : ∀ f ∈ fs.tail, f.resets ≠ [])
    (hstart : startsWithReset fs = true ∨ v = Scan.zero) : StaysBounded c v (streamWords c fs) := by
  induction fs generalizing v with
  | nil => trivial
  | cons f fs ih =>
    obtain ⟨hf, hrest⟩ := List.forall_mem_cons.1 hfs
    rw [streamWords, List.flatMap_cons]
    refine (staysBounded_frame hv hf (hstart.imp_left (startsWithReset_cons_iff f fs).1)).of_append ?_
    cases fs with
    | nil => trivial
    | cons g gs =>
      obtain ⟨hg, hgs⟩ := List.forall_mem_cons.1 hresets
      exact ih hrest hgs (.inl ((startsWithReset_cons_iff g gs).2 hg))

/-- Settles O35: frame after frame stays bounded, each from its FRAME_RESET or from the Scan State 0. -/
theorem scanIndexBoundsUnderContract : Obligations.ScanIndexBoundsUnderContract := by
  intro s fs rest hv hconf hstart hinputs k hk hkwords
  obtain ⟨hfs, hresets⟩ := (streamConforms_iff _ _).1 hconf
  refine ⟨_, runTicks_of_valid hv k, ?_⟩
  rw [iterate_scan_take hinputs hkwords]
  exact (staysBounded_stream hv hfs hresets hstart).take hk hkwords

end Machine
end Sys2Proof
end

section
/-!
PROOFS. From the cell address to the pixel: the latencies of the fetch pipeline (spec/41_fetch_pipeline.md R122), the contents of
the shift register during a glyph span (spec/42_glyph_serializer.md R132, R133), and the display theorem
(spec/70_reset_and_hazards.md R201) with its first violation (R204).
-/

namespace Sys2Proof.Machine

/-! ## The fetch pipeline (spec/41_fetch_pipeline.md R120 to R122) -/

/-- The ATTR5 word of a cell. -/
def cellAttr (c : Config) (cell : Nat) : Attr5 := BitVec.ofNat 5 (tableRead c.attrBuf cell)

/-- The row r of the glyph of a cell. -/
def glyphRow (c : Config) (cell r : Nat) : Nat :=
  tableRead c.glyph (tableRead c.charBuf cell * c.glyphHeight + r)

theorem charBuf_read_lt {c : Config} (hv : c.valid = true) (a : Nat) : tableRead c.charBuf a < 256 := by
  obtain ⟨-, -, -, hchar, -⟩ := (Config.valid_iff c).1 hv
  obtain ⟨-, hwidth, hwf⟩ := (Table.holdsWords_iff _ _ _).1 hchar
  simpa [hwidth] using tableRead_lt hwf a

theorem attrBuf_read_lt {c : Config} (hv : c.valid = true) (a : Nat) : tableRead c.attrBuf a < 32 := by
  obtain ⟨-, -, -, -, hattr, -⟩ := (Config.valid_iff c).1 hv
  obtain ⟨-, hwidth, hwf⟩ := (Table.holdsWords_iff _ _ _).1 hattr
  simpa [hwidth] using tableRead_lt hwf a

theorem cellAttr_toNat {c : Config} (hv : c.valid = true) (cell : Nat) :
    (cellAttr c cell).toNat = tableRead c.attrBuf cell := by
  rw [cellAttr, BitVec.toNat_ofNat]
  exact Nat.mod_eq_of_lt (attrBuf_read_lt hv cell)

section pipeline

variable {s : State} (hv : s.cfg.valid = true) (hcell : s.scan.cellIndex < s.cfg.totalCells)
include hcell

theorem nextState_attrQ : (nextState s).fetch.attrQ = cellAttr s.cfg s.scan.cellIndex := by
  have hread : memRead s .attr s.scan.cellIndex = tableRead s.cfg.attrBuf s.scan.cellIndex := memRead_of_lt hcell
  rw [nextState_fetch, cellAttr, ← hread]
  rfl

include hv

theorem nextState_charQ_toNat : (nextState s).fetch.charQ.toNat = tableRead s.cfg.charBuf s.scan.cellIndex := by
  have hread : memRead s .char s.scan.cellIndex = tableRead s.cfg.charBuf s.scan.cellIndex := memRead_of_lt hcell
  have hcode : (nextState s).fetch.charQ = BitVec.ofNat 8 (memRead s .char s.scan.cellIndex) := rfl
  rw [hcode, hread, BitVec.toNat_ofNat]
  exact Nat.mod_eq_of_lt (charBuf_read_lt hv _)

/-- Two ticks on, the glyph row is that of the cell, at the row counter of one tick on. -/
theorem glyphQ_two_ticks (hrow : (nextState s).scan.rowInGlyph < s.cfg.glyphHeight) :
    (nextState (nextState s)).fetch.glyphQ = glyphRow s.cfg s.scan.cellIndex (nextState s).scan.rowInGlyph := by
  have haddr : glyphAddress (nextState s) =
      tableRead s.cfg.charBuf s.scan.cellIndex * s.cfg.glyphHeight + (nextState s).scan.rowInGlyph := by
    rw [glyphAddress, nextState_charQ_toNat hv hcell, nextState_cfg]
  have hcode := charBuf_read_lt hv s.scan.cellIndex
  have hin : glyphAddress (nextState s) < Space.glyph.depth (nextState s).cfg := by
    calc glyphAddress (nextState s)
        < (tableRead s.cfg.charBuf s.scan.cellIndex + 1) * s.cfg.glyphHeight := by rw [haddr, Nat.succ_mul]; omega
      _ ≤ 256 * s.cfg.glyphHeight := Nat.mul_le_mul_right _ hcode
  have hread : (nextState (nextState s)).fetch.glyphQ = memRead (nextState s) .glyph (glyphAddress (nextState s)) := rfl
  rw [hread, memRead_of_lt hin, haddr]
  rfl

/-- A tick that latches loads what was addressed before: the row of the cell of two ticks earlier, the ATTR5 word of that
of one tick earlier. -/
theorem latch_third_tick (hcell1 : (nextState s).scan.cellIndex < s.cfg.totalCells)
    (hrow : (nextState s).scan.rowInGlyph < s.cfg.glyphHeight)
    (hlatch : latchAfter (nextState (nextState s)) (sampledCtl (nextState (nextState s))) =
      latchedRow (nextState (nextState s))) :
    (nextState (nextState (nextState s))).latch =
      { shiftRegister := revBits s.cfg.glyphWidth (glyphRow s.cfg s.scan.cellIndex (nextState s).scan.rowInGlyph)
        latchedAttribute := cellAttr s.cfg (nextState s).scan.cellIndex
        underlineActive := rowLast (nextState (nextState s)) } := by
  rw [nextState_latch, hlatch, latchedRow, glyphQ_two_ticks hv hcell hrow, nextState_attrQ (s := nextState s) hcell1]
  rfl

end pipeline

/-- Settles O40: each stage's read in range is the table's word. -/
theorem fetchLatencyIsTwoTicks : Obligations.FetchLatencyIsTwoTicks := by
  intro s hv
  refine ⟨_, _, runTicks_of_valid hv 1, runTicks_of_valid hv 2, fun hcell => ⟨nextState_charQ_toNat hv hcell, ?_, ?_⟩⟩
  · exact (congrArg BitVec.toNat (nextState_attrQ hcell)).trans (cellAttr_toNat hv _)
  · exact glyphQ_two_ticks hv hcell

/-! ## Latching and shifting -/

theorem latchAfter_of_not_enabled {w : Ctl} (h : horizontalEnable w = false) (s : State) :
    latchAfter s w = latchedRow s := by
  rw [latchAfter_eq, h]
  rfl

theorem latchAfter_of_last_column {s : State} (h : s.scan.columnInGlyph = s.cfg.glyphWidth - 1) (w : Ctl) :
    latchAfter s w = latchedRow s := by
  rw [latchAfter_eq, (colLast_iff s).2 h, Bool.or_true]
  rfl

theorem latchAfter_active {s : State} (h : s.scan.columnInGlyph ≠ s.cfg.glyphWidth - 1) :
    latchAfter s 0x5#4 = { s.latch with shiftRegister := shiftTowardZero s.cfg.glyphWidth s.latch.shiftRegister } := by
  rw [latchAfter_eq, Bool.eq_false_of_not_eq_true (mt (colLast_iff s).1 h)]
  rfl

/-- Settles O51: the new cell is in the pipeline one tick short of the LATCH. -/
theorem twoHoldTicksShowTheOldGlyph : Obligations.TwoHoldTicksShowTheOldGlyph := by
  intro s w h1 h2 rest hs hinputs hw hhold1 hhold2 henable hcell hstart
  obtain ⟨hv, hcol, hrow, -⟩ := (countersInRange_iff s).1 hs
  have hctl0 : sampledCtl s = w := sampledCtl_cons hinputs
  have hinputs1 : (nextState s).inputs = h1 :: h2 :: rest := by rw [nextState_inputs, hinputs]; rfl
  have hctl1 : sampledCtl (nextState s) = h1 := sampledCtl_cons hinputs1
  have hinputs2 : (nextState (nextState s)).inputs = h2 :: rest := by rw [nextState_inputs, hinputs1]; rfl
  have hctl2 : sampledCtl (nextState (nextState s)) = h2 := sampledCtl_cons hinputs2
  have hcell1 : (nextState s).scan.cellIndex < s.cfg.totalCells := by
    rw [nextState_scan, hctl0, scanAfter_of_isLineAdvance s hw, lineAdvanceScan_of_row_in_range hrow]
    split
    · exact hcell
    · exact hstart
  have hrow1 : (nextState s).scan.rowInGlyph < s.cfg.glyphHeight := (scanAfter_in_range hv hcol hrow _).2
  have hscan2 : (nextState (nextState s)).scan = (nextState s).scan := by
    rw [nextState_scan (nextState s), hctl1, scanAfter_of_isHold _ hhold1]
  have hlatch := latch_third_tick hv hcell hcell1 hrow1 (by rw [hctl2, latchAfter_of_not_enabled henable])
  refine ⟨nextState s, nextState (nextState (nextState s)), runTicks_of_valid hv 1, runTicks_of_valid hv 3, ?_⟩
  rw [hlatch, rowLast, hscan2]
  exact ⟨testBit_revBits _ _, cellAttr_toNat hv _, rfl⟩

/-! ## A run of active ticks (spec/42_glyph_serializer.md R132, R133) -/

section active

variable {s : State} {m : Nat} {rest : List Ctl} (hinputs : s.inputs = List.replicate m 0x5#4 ++ rest)
include hinputs

theorem iterate_sampledCtl_active {x : Nat} (hx : x < m) : sampledCtl (nextState^[x] s) = 0x5#4 := by
  obtain ⟨d, hd⟩ := Nat.exists_eq_add_of_lt hx
  have hqueue : (nextState^[x] s).inputs = 0x5#4 :: (List.replicate d 0x5#4 ++ rest) := by
    rw [iterate_inputs, hinputs, List.drop_append_of_le_length (by rw [List.length_replicate]; omega), List.drop_replicate,
      show m - x = d + 1 by omega, List.replicate_succ, List.cons_append]
  exact sampledCtl_cons hqueue

theorem iterate_scan_active {x : Nat} (hx : x ≤ m) :
    (nextState^[x] s).scan = scanRun s.cfg s.scan (List.replicate x 0x5#4) := by
  rw [iterate_scan_take hinputs (by rwa [List.length_replicate]), List.take_replicate, Nat.min_eq_left hx]

theorem iterate_column_active (hcol : s.scan.columnInGlyph < s.cfg.glyphWidth) {x : Nat} (hx : x ≤ m) :
    (nextState^[x] s).scan.columnInGlyph = (s.scan.columnInGlyph + x) % s.cfg.glyphWidth := by
  rw [iterate_scan_active hinputs hx, scanRun_active_column hcol]

end active

theorem decodeSer2_active (t : State) :
    decodeSer2 (serializerSelector t 0x5#4) = if colLast t then .latchC else .shift := by
  have henable : horizontalEnable 0x5#4 = true := by decide
  rw [serializerSelector, henable]
  cases colLast t with
  | false => rfl
  | true => rfl

/-- Settles O42: in an active tick the selector is LATCH.C in the last column and SHIFT in the others. -/
theorem activeTicksLatchOncePerGlyph : Obligations.ActiveTicksLatchOncePerGlyph := by
  intro s m rest hv hcol hinputs x hx
  refine ⟨_, runTicks_of_valid hv x, ?_⟩
  rw [iterate_sampledCtl_active hinputs hx, decodeSer2_active]
  simp only [colLast_iff, iterate_column_active hinputs hcol hx.le, iterate_cfg]

/-- The shift register holds the pixels of the row word g from pixel j on, pixel j at bit 0. -/
def ShowsFrom (width g j : Nat) (v : Nat) : Prop :=
  ∀ i, v.testBit i = (decide (j + i < width) && g.testBit (width - 1 - (j + i)))

theorem ShowsFrom.shift {width g j v : Nat} (h : ShowsFrom width g j v) :
    ShowsFrom width g (j + 1) (shiftTowardZero width v) := by
  intro i
  have hassoc : j + (i + 1) = j + 1 + i := by omega
  rw [testBit_shiftTowardZero, h (i + 1), hassoc]
  by_cases hlt : j + 1 + i < width
  · have hi : i + 1 < width := by omega
    simp only [hi, decide_true, Bool.true_and]
  · simp only [hlt, decide_false, Bool.false_and, Bool.and_false]

theorem showsFrom_revBits (width g : Nat) : ShowsFrom width g 0 (revBits width g) := by
  intro i
  rw [testBit_revBits, Nat.zero_add]

/-- Bit 0 is pixel j. -/
theorem ShowsFrom.testBit_zero {width g j v : Nat} (h : ShowsFrom width g j v) (hj : j < width) :
    v.testBit 0 = g.testBit (width - 1 - j) := by
  have hbit := h 0
  rwa [Nat.add_zero, decide_eq_true hj, Bool.true_and] at hbit

/-- During a glyph span the shift register moves on by one pixel in each tick, and the other two registers stand. -/
theorem glyphSpan {s : State} {g m : Nat} {rest : List Ctl} (hcol : s.scan.columnInGlyph = 0)
    (hshows : ShowsFrom s.cfg.glyphWidth g 0 s.latch.shiftRegister)
    (hinputs : s.inputs = List.replicate m 0x5#4 ++ rest) {j : Nat} (hj : j < s.cfg.glyphWidth) (hjm : j ≤ m) :
    ShowsFrom s.cfg.glyphWidth g j (nextState^[j] s).latch.shiftRegister ∧
      (nextState^[j] s).latch.latchedAttribute = s.latch.latchedAttribute ∧
      (nextState^[j] s).latch.underlineActive = s.latch.underlineActive := by
  induction j with
  | zero => exact ⟨hshows, rfl, rfl⟩
  | succ j ih =>
    obtain ⟨hpixels, hattr, hunderline⟩ := ih (by omega) (by omega)
    have hcolumn : (nextState^[j] s).scan.columnInGlyph = j := by
      rw [iterate_column_active hinputs (by omega) (by omega), hcol, Nat.zero_add, Nat.mod_eq_of_lt (by omega)]
    have hlatch : (nextState^[j + 1] s).latch = { (nextState^[j] s).latch with
        shiftRegister := shiftTowardZero s.cfg.glyphWidth (nextState^[j] s).latch.shiftRegister } := by
      rw [iterate_succ, nextState_latch, iterate_sampledCtl_active hinputs (by omega),
        latchAfter_active (by rw [hcolumn, iterate_cfg]; omega), iterate_cfg]
    rw [hlatch]
    exact ⟨hpixels.shift, hattr, hunderline⟩

/-- The last tick of a glyph span latches. -/
theorem glyphSpan_end {s : State} {m : Nat} {rest : List Ctl} (hgw : 1 ≤ s.cfg.glyphWidth) (hcol : s.scan.columnInGlyph = 0)
    (hinputs : s.inputs = List.replicate m 0x5#4 ++ rest) (hm : s.cfg.glyphWidth ≤ m) (w : Ctl) :
    latchAfter (nextState^[s.cfg.glyphWidth - 1] s) w = latchedRow (nextState^[s.cfg.glyphWidth - 1] s) := by
  refine latchAfter_of_last_column ?_ w
  rw [iterate_column_active hinputs (by omega) (by omega), hcol, Nat.zero_add, iterate_cfg, Nat.mod_eq_of_lt (by omega)]

/-- Settles O41: the span's shifts, and the LATCH of its last tick. -/
theorem glyphSpanShowsRowLeftToRight : Obligations.GlyphSpanShowsRowLeftToRight := by
  intro s g rest hv hcol hshows hinputs
  obtain ⟨hgw4, -, -⟩ := Config.valid_bounds hv
  have hgw : 1 ≤ s.cfg.glyphWidth := by omega
  have hshows0 : ShowsFrom s.cfg.glyphWidth g 0 s.latch.shiftRegister := fun i => by rw [hshows i, Nat.zero_add]
  refine ⟨fun j hj => ⟨_, runTicks_of_valid hv j, ?_⟩, _, _, runTicks_of_valid hv _, runTicks_of_valid hv _, ?_⟩
  · obtain ⟨hpixels, hattr, hunderline⟩ := glyphSpan hcol hshows0 hinputs hj hj.le
    refine ⟨?_, hpixels.testBit_zero hj, hpixels, hattr, hunderline⟩
    rw [iterate_column_active hinputs (by omega) hj.le, hcol, Nat.zero_add, Nat.mod_eq_of_lt hj]
  · have hnext : (nextState^[s.cfg.glyphWidth] s).latch = latchedRow (nextState^[s.cfg.glyphWidth - 1] s) := by
      obtain ⟨n, hn⟩ := Nat.exists_eq_add_of_le' hgw
      rw [← glyphSpan_end hgw hcol hinputs le_rfl, hn, iterate_succ, nextState_latch]
      rfl
    rw [hnext, latchedRow, iterate_cfg]
    exact ⟨testBit_revBits _ _, rfl⟩

/-! ## The glyphs of a line -/

/-- The Render Latch with a whole glyph row loaded: row r of the glyph of a cell, its ATTR5 word and the underline flag. -/
def glyphLatch (c : Config) (cell r : Nat) : RenderLatch :=
  { shiftRegister := revBits c.glyphWidth (glyphRow c cell r), latchedAttribute := cellAttr c cell
    underlineActive := decide (r = c.glyphHeight - 1) }

/-- The premises of a line: AW active ticks from column 0 of a row of cells below N, with the first glyph row loaded. -/
structure LineReady (s : State) (R r : Nat) (rest : List Ctl) : Prop where
  valid : s.cfg.valid = true
  scan : s.scan = lineScan R r
  latch : s.latch = glyphLatch s.cfg R r
  row : r < s.cfg.glyphHeight
  cells : R + s.cfg.cellsPerRow ≤ s.cfg.totalCells
  inputs : s.inputs = List.replicate s.cfg.activeWidth 0x5#4 ++ rest

section line

variable {s : State} {R r : Nat} {rest : List Ctl} (h : LineReady s R r rest)
include h

theorem LineReady.iterate_scan {x : Nat} (hx : x ≤ s.cfg.activeWidth) :
    (nextState^[x] s).scan =
      { cellIndex := R + (x + s.cfg.glyphWidth - 1) / s.cfg.glyphWidth, rowStart := R
        columnInGlyph := x % s.cfg.glyphWidth, rowInGlyph := r } := by
  rw [iterate_scan_active h.inputs hx, h.scan, scanRun_line_active h.valid h.cells hx]

/-- From the second tick of glyph span q on, the cell index is already the next cell's. -/
theorem LineReady.iterate_scan_in_span {q d : Nat} (hq : q < s.cfg.cellsPerRow) (hd : 1 ≤ d) (hdw : d < s.cfg.glyphWidth) :
    (nextState^[q * s.cfg.glyphWidth + d] s).scan =
      { cellIndex := R + (q + 1), rowStart := R, columnInGlyph := d, rowInGlyph := r } := by
  have hwidth : (q + 1) * s.cfg.glyphWidth ≤ s.cfg.activeWidth := by
    rw [Config.activeWidth_eq h.valid]
    exact Nat.mul_le_mul_right _ hq
  have hsucc : (q + 1) * s.cfg.glyphWidth = q * s.cfg.glyphWidth + s.cfg.glyphWidth := Nat.succ_mul _ _
  have hceil : (q * s.cfg.glyphWidth + d + s.cfg.glyphWidth - 1) / s.cfg.glyphWidth = q + 1 := by
    refine Nat.div_eq_of_lt_le (by omega) ?_
    rw [Nat.succ_mul (q + 1)]
    omega
  rw [h.iterate_scan (by omega), hceil, Nat.mul_add_mod', Nat.mod_eq_of_lt hdw]

/-- At the start of every glyph span of the line the glyph row of its cell is loaded: by the premise for the first, and by the
last tick of the span before for the others, in whose last three ticks the cell index stood at the new cell (GW >= 4). -/
theorem LineReady.iterate_latch {q : Nat} (hq : q < s.cfg.cellsPerRow) :
    (nextState^[q * s.cfg.glyphWidth] s).latch = glyphLatch s.cfg (R + q) r := by
  cases q with
  | zero => rw [Nat.zero_mul]; exact h.latch
  | succ q =>
    obtain ⟨hgw, -, -⟩ := Config.valid_bounds h.valid
    obtain ⟨w, hw⟩ := Nat.exists_eq_add_of_le' hgw
    have hticks : (q + 1) * s.cfg.glyphWidth = q * s.cfg.glyphWidth + (w + 1) + 3 := by rw [Nat.succ_mul]; omega
    have hspan := fun d => h.iterate_scan_in_span (q := q) (d := d) (by omega)
    have hz := hspan (w + 1) (by omega) (by omega)
    have hz1 := hspan (w + 2) (by omega) (by omega)
    have hz2 := hspan (w + 3) (by omega) (by omega)
    rw [hticks, iterate_succ, iterate_succ, iterate_succ]
    generalize hn : q * s.cfg.glyphWidth + (w + 1) = n at hz
    rw [show q * s.cfg.glyphWidth + (w + 2) = n + 1 by omega, iterate_succ] at hz1
    rw [show q * s.cfg.glyphWidth + (w + 3) = n + 1 + 1 by omega, iterate_succ, iterate_succ] at hz2
    have hcells := h.cells
    have hcfg : (nextState^[n] s).cfg = s.cfg := iterate_cfg n s
    have hlatch := latch_third_tick (s := nextState^[n] s) (hcfg.symm ▸ h.valid) (by rw [hcfg, hz]; dsimp only; omega)
      (by rw [hcfg, hz1]; dsimp only; omega) (by rw [hcfg, hz1]; exact h.row)
      (latchAfter_of_last_column (by rw [hz2, nextState_cfg, nextState_cfg, hcfg]; dsimp only; omega) _)
    rw [hlatch, rowLast, hz, hz1, hz2, nextState_cfg, nextState_cfg, hcfg]
    rfl

end line

/-! ## The picture (spec/70_reset_and_hazards.md R201) -/

/-- The outputs of a tick whose Render Latch shows pixel x of line y. -/
theorem composedOutputs_eq_displayedPixel {t : State} {c : Config} {x y : Nat}
    (hpixel : t.latch.shiftRegister.testBit 0 =
      (glyphRow c (y / c.glyphHeight * c.cellsPerRow + x / c.glyphWidth) (y % c.glyphHeight)).testBit
        (c.glyphWidth - 1 - x % c.glyphWidth))
    (hattr : t.latch.latchedAttribute = cellAttr c (y / c.glyphHeight * c.cellsPerRow + x / c.glyphWidth))
    (hunderline : t.latch.underlineActive = decide (y % c.glyphHeight = c.glyphHeight - 1)) :
    composedOutputs t = displayedPixel c x y t.blink.blinkPhase := by
  rw [composedOutputs, currentPixel, hpixel, hattr, hunderline]
  rfl

/-- Every active tick of a line shows its pixel: the glyph span of the tick starts with the row of its cell. -/
theorem LineReady.iterate_outputs {s : State} {rest : List Ctl} {x y : Nat}
    (h : LineReady s (y / s.cfg.glyphHeight * s.cfg.cellsPerRow) (y % s.cfg.glyphHeight) rest)
    (hx : x < s.cfg.activeWidth) :
    composedOutputs (nextState^[x] s) = displayedPixel s.cfg x y (nextState^[x] s).blink.blinkPhase := by
  obtain ⟨hgw4, -, -⟩ := Config.valid_bounds h.valid
  have hgw : 1 ≤ s.cfg.glyphWidth := by omega
  have hq : x / s.cfg.glyphWidth < s.cfg.cellsPerRow :=
    Nat.div_lt_of_lt_mul (by rwa [Nat.mul_comm, ← Config.activeWidth_eq h.valid])
  have hj : x % s.cfg.glyphWidth < s.cfg.glyphWidth := Nat.mod_lt x hgw
  have hx_eq : x % s.cfg.glyphWidth + x / s.cfg.glyphWidth * s.cfg.glyphWidth = x := Nat.mod_add_div' x _
  generalize hstart : x / s.cfg.glyphWidth * s.cfg.glyphWidth = start at hx_eq
  have hlatch := h.iterate_latch hq
  rw [hstart] at hlatch
  have hcfg : (nextState^[start] s).cfg = s.cfg := iterate_cfg start s
  have hcol : (nextState^[start] s).scan.columnInGlyph = 0 := by
    rw [h.iterate_scan (by omega), ← hstart, Nat.mul_mod_left]
  have hinputs : (nextState^[start] s).inputs = List.replicate (s.cfg.activeWidth - start) 0x5#4 ++ rest := by
    rw [iterate_inputs, h.inputs, List.drop_append_of_le_length (by rw [List.length_replicate]; omega), List.drop_replicate]
  have hshows := showsFrom_revBits s.cfg.glyphWidth
    (glyphRow s.cfg (y / s.cfg.glyphHeight * s.cfg.cellsPerRow + x / s.cfg.glyphWidth) (y % s.cfg.glyphHeight))
  obtain ⟨hpixels, hattr, hunderline⟩ := glyphSpan (j := x % s.cfg.glyphWidth) hcol
    (by rw [hlatch, hcfg]; exact hshows) hinputs (by rwa [hcfg]) (by omega)
  rw [← Function.iterate_add_apply, hx_eq] at hpixels hattr hunderline
  rw [hcfg] at hpixels
  rw [hlatch] at hattr hunderline
  exact composedOutputs_eq_displayedPixel (hpixels.testBit_zero hj) hattr hunderline

/-! ## The start of a line in a conforming stream -/

/-- The last three of the words that settle (R200 parts 2 and 3d). -/
theorem exists_last_three_of_settles {ws : List Ctl} (h : settles ws = true) :
    ∃ init b1 b2 b3, ws = init ++ [b1, b2, b3] ∧ isHold b1 = true ∧ isHold b2 = true ∧ isHold b3 = true ∧
      horizontalEnable b3 = false := by
  obtain ⟨hlength, hhold, b, hlast, henable⟩ := (settles_iff ws).1 h
  obtain ⟨n, hn⟩ := Nat.exists_eq_add_of_le' hlength
  have hthree : (ws.drop n).length = 3 := by rw [List.length_drop]; omega
  obtain ⟨b1, b2, b3, hdrop⟩ := List.length_eq_three.1 hthree
  have hws : ws = ws.take n ++ [b1, b2, b3] := by rw [← hdrop, List.take_append_drop]
  have hmem : ∀ b ∈ [b1, b2, b3], isHold b = true := fun b hb =>
    List.all_eq_true.1 hhold b (List.mem_of_mem_drop (hdrop ▸ hb))
  have hb3 : b3 = b := by
    rw [hws, List.getLast?_append] at hlast
    exact Option.some.inj hlast
  exact ⟨_, b1, b2, b3, hws, hmem b1 (by simp), hmem b2 (by simp), hmem b3 (by simp), hb3 ▸ henable⟩

/-- Words that settle before a line make its first glyph row ready: the cell index stands for three ticks, and the last of them
latches. -/
theorem lineReady_of_settles {s : State} (hv : s.cfg.valid = true) {before ws rest : List Ctl} {R r : Nat}
    (hinputs : s.inputs = before ++ ws ++ (List.replicate s.cfg.activeWidth 0x5#4 ++ rest)) (hsettles : settles ws = true)
    (hscan : scanRun s.cfg s.scan (before ++ ws) = lineScan R r) (hrow : r < s.cfg.glyphHeight)
    (hcells : R + s.cfg.cellsPerRow ≤ s.cfg.totalCells) :
    LineReady (nextState^[(before ++ ws).length] s) R r rest := by
  obtain ⟨init, b1, b2, b3, rfl, hb1, hb2, hb3, henable⟩ := exists_last_three_of_settles hsettles
  obtain ⟨-, -, -, -, -, hgw, ⟨-, hwidth, -⟩, -⟩ := (Config.valid_iff s.cfg).1 hv
  have hcpr : 1 ≤ s.cfg.cellsPerRow := Nat.div_pos hwidth (by omega)
  have hcfg := iterate_cfg (before ++ init).length s
  have hhold : ([b1, b2, b3] : List Ctl).all isHold = true := by simp [hb1, hb2, hb3]
  have hsplit : s.inputs = (before ++ init) ++ (b1 :: b2 :: b3 :: (List.replicate s.cfg.activeWidth 0x5#4 ++ rest)) := by
    rw [hinputs]
    simp
  have hscan0 : (nextState^[(before ++ init).length] s).scan = lineScan R r := by
    rw [← List.append_assoc, scanRun_append, scanRun_of_holds _ _ hhold] at hscan
    rw [iterate_scan hsplit, hscan]
  have hqueue0 := iterate_inputs_of_append hsplit
  have hticks : (before ++ (init ++ [b1, b2, b3])).length = (before ++ init).length + 3 := by simp [Nat.add_assoc]
  have hready := iterate_inputs_of_append hinputs
  rw [hticks, iterate_succ, iterate_succ, iterate_succ] at hready ⊢
  generalize nextState^[(before ++ init).length] s = z at *
  have hvz : z.cfg.valid = true := hcfg.symm ▸ hv
  have hqueue1 : (nextState z).inputs = b2 :: b3 :: (List.replicate s.cfg.activeWidth 0x5#4 ++ rest) := by
    rw [nextState_inputs, hqueue0, List.tail_cons]
  have hqueue2 : (nextState (nextState z)).inputs = b3 :: (List.replicate s.cfg.activeWidth 0x5#4 ++ rest) := by
    rw [nextState_inputs, hqueue1, List.tail_cons]
  have hscan1 : (nextState z).scan = lineScan R r := by
    rw [nextState_scan, sampledCtl_cons hqueue0, scanAfter_of_isHold _ hb1, hscan0]
  have hscan2 : (nextState (nextState z)).scan = lineScan R r := by
    rw [nextState_scan, sampledCtl_cons hqueue1, scanAfter_of_isHold _ hb2, hscan1]
  have hscan3 : (nextState (nextState (nextState z))).scan = lineScan R r := by
    rw [nextState_scan, sampledCtl_cons hqueue2, scanAfter_of_isHold _ hb3, hscan2]
  have hcell : R < z.cfg.totalCells := by rw [hcfg]; omega
  have hlatch := latch_third_tick hvz (by rw [hscan0]; exact hcell) (by rw [hscan1]; exact hcell)
    (by rw [hscan1, hcfg]; exact hrow) (by rw [sampledCtl_cons hqueue2, latchAfter_of_not_enabled henable])
  rw [hscan0, hscan1, rowLast, hscan2] at hlatch
  exact
    { valid := hvz
      scan := hscan3
      latch := hlatch
      row := hcfg.symm ▸ hrow
      cells := hcfg.symm ▸ hcells
      inputs := by rw [hready, nextState_cfg, nextState_cfg, nextState_cfg, hcfg] }

/-- The words of a conforming frame before line y end with words that settle: `pre` before line 0, `back` of the line before
otherwise. -/
theorem exists_settles_before_line {c : Config} {f : FrameStream} (hf : f.conforms c = true) {y : Nat}
    (hy : y < c.activeHeight) :
    ∃ before ws, f.resets ++ f.pre ++ lineWords c (f.lines.take y) = before ++ ws ∧ settles ws = true := by
  obtain ⟨-, hpre, hlength, -, hconf, -⟩ := (f.conforms_iff c).1 hf
  cases y with
  | zero => exact ⟨f.resets, f.pre, by rw [List.take_zero, lineWords_nil, List.append_nil], hpre⟩
  | succ y =>
    have hyl : y < f.lines.length := by omega
    have hmem : f.lines[y] ∈ f.lines.dropLast := by
      rw [List.dropLast_eq_take, List.mem_take_iff_getElem]
      exact ⟨y, by omega, rfl⟩
    obtain ⟨-, hback⟩ := (LineStream.conforms_iff _).1 (List.all_eq_true.1 hconf _ hmem)
    refine ⟨f.resets ++ f.pre ++ lineWords c (f.lines.take y) ++
      (List.replicate c.activeWidth 0x5#4 ++ (f.lines[y].front ++ [f.lines[y].strobe])), f.lines[y].back, ?_, hback⟩
    rw [List.take_succ_eq_append_getElem hyl, lineWords_append, lineWords_cons, lineWords_nil, List.append_nil,
      LineStream.words_eq]
    simp only [List.append_assoc]

/-- Where a frame of a conforming stream starts, it begins with FRAME_RESET or the Scan State is 0. -/
theorem frame_start_in_stream {c : Config} {before after : List FrameStream} {f : FrameStream} {v : Scan}
    (hconf : streamConforms c (before ++ f :: after) = true)
    (hstart : startsWithReset (before ++ f :: after) = true ∨ v = Scan.zero) :
    f.resets ≠ [] ∨ scanRun c v (streamWords c before) = Scan.zero := by
  obtain ⟨-, hresets⟩ := (streamConforms_iff c _).1 hconf
  cases before with
  | nil => exact hstart.imp_left (startsWithReset_cons_iff f after).1
  | cons g gs => exact .inl (hresets f (List.mem_append_right gs List.mem_cons_self))

/-- Settles O48: the words before line y settle, so its first glyph row is loaded, and the line shows its pixels. -/
theorem displayShowsThePicture : Obligations.DisplayShowsThePicture := by
  intro s before f after rest hv hconf hstart hinputs x y hx hy
  obtain ⟨hframes, -⟩ := (streamConforms_iff _ _).1 hconf
  have hf : f.conforms s.cfg = true := hframes f (List.mem_append_right before List.mem_cons_self)
  obtain ⟨-, -, hlength, -⟩ := (f.conforms_iff s.cfg).1 hf
  obtain ⟨-, hgh, -⟩ := Config.valid_bounds hv
  obtain ⟨ws, hline⟩ := exists_lineWords_drop_eq s.cfg (hlength.symm ▸ hy)
  obtain ⟨init, settling, hprefix, hsettles⟩ := exists_settles_before_line hf hy
  have hqueue : s.inputs = (streamWords s.cfg before ++ init) ++ settling ++
      (List.replicate s.cfg.activeWidth 0x5#4 ++ (ws ++ f.post ++ streamWords s.cfg after ++ rest)) := by
    rw [hinputs, streamWords, List.flatMap_append, List.flatMap_cons, f.words_split s.cfg y, hprefix, hline]
    simp only [streamWords, List.append_assoc]
  have hscan : scanRun s.cfg s.scan ((streamWords s.cfg before ++ init) ++ settling) =
      lineScan (y / s.cfg.glyphHeight * s.cfg.cellsPerRow) (y % s.cfg.glyphHeight) := by
    rw [List.append_assoc, ← hprefix, scanRun_append,
      scanRun_frame_line hv hf (frame_start_in_stream hconf hstart) hy.le, lineStartScan, Nat.zero_add]
  have hcells : y / s.cfg.glyphHeight * s.cfg.cellsPerRow + s.cfg.cellsPerRow ≤ s.cfg.totalCells := by
    have hend := Config.row_end_le_totalCells hv hy
    rwa [Nat.zero_add, Nat.succ_mul] at hend
  have hready := lineReady_of_settles hv hqueue hsettles hscan (Nat.mod_lt y hgh) hcells
  have hticks : (streamWords s.cfg before ++ init ++ settling).length =
      (streamWords s.cfg before).length + f.lineStart s.cfg y := by
    rw [List.append_assoc, ← hprefix, List.length_append, f.lineStart_eq_length]
  rw [hticks] at hready
  refine ⟨_, _, runTicks_of_valid hv _, step_iterate hv _, ?_⟩
  rw [iterate_succ, nextState_out, Nat.add_comm _ x, Function.iterate_add_apply]
  generalize (streamWords s.cfg before).length + f.lineStart s.cfg y = start at *
  have hcfg := iterate_cfg start s
  rw [← hcfg] at hready hx ⊢
  exact hready.iterate_outputs hx

end Sys2Proof.Machine
end
